-- ==== Sys2Proof/Word.lean ====
section
/-! DEFINITION. The word types of the timer block: bytes, 16-bit register values and 48-bit action words. -/

namespace Sys2Proof

/-- One byte: the width of every bus access (spec R82). -/
abbrev Byte := BitVec 8

/-- A 16-bit value: Timer1's counter, compare and capture registers, callback ids, operands (R34, R61, R101). -/
abbrev Half := BitVec 16

/-- One action word (R100): every action is one word of this fixed length (R119). -/
abbrev ActionWord := BitVec 48

end Sys2Proof
end

