-- ==== Sys2Proof/Machine/Bits.lean ====
section
/-! DEFINITION. Bit-field helpers of the register and driver rules (spec R10). -/

namespace Sys2Proof.Machine

/-- `v[hi:lo]` as a field of width n = hi - lo + 1 (R10). -/
def field (v : BitVec w) (lo n : Nat) : BitVec n := v.extractLsb' lo n

/-- `onehot(i)`: the byte with only bit i set (R10). -/
def onehot (i : Nat) : Byte := BitVec.ofNat 8 (2 ^ i)

/-- `h:l` of two bytes (R10). -/
def pair (h l : Byte) : Half := h ++ l

/-- The high and low byte of a 16-bit value. -/
def hiByte (v : Half) : Byte := v.extractLsb' 8 8
def loByte (v : Half) : Byte := v.extractLsb' 0 8

end Sys2Proof.Machine
end

