-- ==== Sys2Proof/Syntax.lean ====
section
/-! DEFINITION. The actions of the timer block: one constructor of `Instr` per row of spec/opcode_table.json,
in the table's order (spec 30_encoding.md). -/

namespace Sys2Proof

/-- Timer identity, the T field (R100). -/
inductive TimerId where
  | t0 | t1 | t2
  deriving DecidableEq, Repr

/-- The two 8-bit timers (R9: W0, W2). -/
inductive Timer8Id where
  | t0 | t2
  deriving DecidableEq, Repr

/-- Compare unit, the U field (R100): A is the only unit of Timer0 and Timer2. -/
inductive CmpUnit where
  | a | b
  deriving DecidableEq, Repr

/-- Logical PWM channel, the CH field (R100, R370). -/
inductive Channel where
  | ch0 | ch1 | ch2 | ch3
  deriving DecidableEq, Repr

/-- The eight interrupt sources, in the order of their SRC numbers (R60). -/
inductive Source where
  | t0Ovf | t0Comp | t1Ovf | t1CompA | t1CompB | t1Capt | t2Ovf | t2Comp
  deriving DecidableEq, Repr

/-- The 20 byte registers on the bus (R104). -/
inductive Reg where
  | tccr0 | tcnt0 | ocr0 | tccr2 | tcnt2 | ocr2 | assr | tccr1a | tccr1b | tcnt1h | tcnt1l
  | ocr1ah | ocr1al | ocr1bh | ocr1bl | icr1h | icr1l | timsk | tifr | sfior
  deriving DecidableEq, Repr

/-- An action: one constructor per row of the opcode table. -/
inductive Instr where
  -- BUSRD (R103): the register is in the constructor's name, there is no operand
  | rdTccr0 | rdTcnt0 | rdOcr0 | rdTccr2 | rdTcnt2 | rdOcr2 | rdAssr | rdTccr1a | rdTccr1b
  | rdTcnt1h | rdTcnt1l | rdOcr1ah | rdOcr1al | rdOcr1bh | rdOcr1bl | rdIcr1h | rdIcr1l
  | rdTimsk | rdTifr | rdSfior
  -- BUSWR (R103): the byte written
  | wrTccr0 (d : Byte) | wrTcnt0 (d : Byte) | wrOcr0 (d : Byte) | wrTccr2 (d : Byte)
  | wrTcnt2 (d : Byte) | wrOcr2 (d : Byte) | wrAssr (d : Byte) | wrTccr1a (d : Byte)
  | wrTccr1b (d : Byte) | wrTcnt1h (d : Byte) | wrTcnt1l (d : Byte) | wrOcr1ah (d : Byte)
  | wrOcr1al (d : Byte) | wrOcr1bh (d : Byte) | wrOcr1bl (d : Byte) | wrIcr1h (d : Byte)
  | wrIcr1l (d : Byte) | wrTimsk (d : Byte) | wrTifr (d : Byte) | wrSfior (d : Byte)
  -- EVENT (R105): the clock, and the level a pin takes
  | clk | pinT0 (level : Bool) | pinT1 (level : Bool) | pinIcp1 (level : Bool)
  -- CORE (R106)
  | sei | cli | accept | reti
  -- SLOT (R107)
  | slotStore (src : Source) (cbid : Half) | invoke (src : Source)
  -- DRIVER (R114)
  | init (t : TimerId) (u : CmpUnit) (count : Half) (mode clksel comact : BitVec 4)
  | disable (t : TimerId)
  | setCompare (t : TimerId) (u : CmpUnit) (value : Half)
  | setTimer (t : TimerId) (value : Half)
  | getTimer (t : TimerId)
  | delayMs (t : TimerId) (period : BitVec 32)
  | enableOvfInt (t : TimerId) (cbid : Half)
  | enableCmpInt (t : TimerId) (u : CmpUnit) (cbid : Half)
  | enableCaptInt (cbid : Half)
  | disableOvfInt (t : TimerId)
  | disableCmpInt (t : TimerId) (u : CmpUnit)
  | disableCaptInt
  | dispatch (src : Source)
  | pwmInit (ch : Channel) (freq : BitVec 32)
  | pwmWrite (ch : Channel) (duty : Byte)
  deriving DecidableEq, Repr

/-- The clock and pin actions: steps of the clock and pin environments, not of the CPU (R6). -/
def Instr.isEnvironment : Instr → Bool
  | .clk | .pinT0 _ | .pinT1 _ | .pinIcp1 _ => true
  | _ => false

/-- What a callback body may hold: CPU actions and driver pseudo-operations, and no RETI (R338).
CLK and PIN actions belong to the environment and ACCEPT to the arbiter (R6). -/
def Instr.isBodyAction (i : Instr) : Bool :=
  !i.isEnvironment && i != .reti && i != .accept

end Sys2Proof
end

