-- ==== Sys2Proof/WellFormed.lean ====
section
/-! DEFINITION. The field constraints of a legal action word that the operand types of `Instr` do not carry
(spec R114, R116, R117). -/

namespace Sys2Proof

/-- Only Timer1 has a unit B (R100, R117). -/
def unitOk (t : TimerId) (u : CmpUnit) : Bool :=
  u == .a || t == .t1

/-- A 16-bit operand of an 8-bit timer is at most 0xFF (R114). -/
def valueOk (t : TimerId) (v : Half) : Bool :=
  t == .t1 || decide (v.toNat ≤ 0xFF)

/-- The field constraints of R114 and R117. Enumeration operands out of range are legal (R115). -/
def Instr.wellFormed : Instr → Bool
  | .init t u count _ _ _ => unitOk t u && valueOk t count
  | .setCompare t u value => unitOk t u && valueOk t value
  | .setTimer t value => valueOk t value
  | .delayMs t _ => t != .t1
  | .enableCmpInt t u _ => unitOk t u
  | .disableCmpInt t u => unitOk t u
  | _ => true

end Sys2Proof
end

