-- ==== Sys2Proof/Config.lean ====
section
/-! DEFINITION. The implementation parameters of spec R9 and the values the spec leaves open. -/

namespace Sys2Proof.Config

/-- One less than F_CPU, which is OPEN (R9, D5; log 6): no value of it is known to a proof. -/
opaque fCpuPred : Nat

/-- F_CPU, the frequency of clk_io in Hz: a positive integer with no known value (R9). -/
def fCpu : Nat := fCpuPred + 1

/-- DELAY_TOP, the counterTop of DelayMs (R9). -/
def delayTop : Nat := 255

/-- NULL_ENABLE_SETS_MASK (R9, D28). -/
def nullEnableSetsMask : Bool := true

/-- PWM_PRESCALER_FALLBACK (R9, D31). -/
def pwmPrescalerFallback : Nat := 1

/-- T1_PWM_MODE, the WGM1 code PWM_INIT uses (R9, D31). -/
def t1PwmMode : BitVec 4 := 5#4

/-- The actions of a callback body, OPEN (R9, D19; log 7). -/
opaque callbackActions : Half → List Instr

/-- CallbackBody (R9): of whatever the open parameter lists, the well-formed CPU actions and driver
pseudo-operations, with no RETI, as R338 requires. -/
def callbackBody (cb : Half) : List Instr :=
  (callbackActions cb).filter fun i => i.isBodyAction && i.wellFormed

/-- What OC0 or OC2 drives while COM = 01 in a PWM mode: R265 leaves the drive undefined (log 13). The arguments are the
timer's number (0 or 2), its count and its prescaler, so that the value may differ from one moment to the next. -/
opaque reservedDrive : Nat → Byte → BitVec 10 → Option Bool

end Sys2Proof.Config
end

