-- ==== Sys2Proof/Decode.lean ====
section
/-! DEFINITION. Decoding and encoding of action words (spec 30_encoding.md). `decode` is total on 48-bit words and
answers `none` exactly for the illegal words of R117; `encode` writes the word of an action from the same tables. -/

namespace Sys2Proof

/-- The fields of an action word (R100). -/
structure Fields where
  cls : BitVec 4
  op : BitVec 4
  t : BitVec 2
  u : BitVec 2
  ch : BitVec 4
  payload : BitVec 32
  deriving DecidableEq, Repr

/-- Take a word apart: CLASS 47:44, OP 43:40, T 39:38, U 37:36, CH 35:32, PAYLOAD 31:0 (R100). -/
def Fields.ofWord (w : ActionWord) : Fields where
  cls := w.extractLsb' 44 4
  op := w.extractLsb' 40 4
  t := w.extractLsb' 38 2
  u := w.extractLsb' 36 2
  ch := w.extractLsb' 32 4
  payload := w.extractLsb' 0 32

/-- Put a word together from its fields (R100). -/
def Fields.toWord (f : Fields) : ActionWord :=
  f.cls ++ f.op ++ f.t ++ f.u ++ f.ch ++ f.payload

/-! ### Field codes -/

/-- T field codes; 3 is reserved (R100). -/
def decodeTimer (t : BitVec 2) : Option TimerId :=
  match t.toNat with
  | 0 => some .t0
  | 1 => some .t1
  | 2 => some .t2
  | _ => none

def encodeTimer : TimerId → BitVec 2
  | .t0 => 0#2
  | .t1 => 1#2
  | .t2 => 2#2

/-- U field codes; 2 and 3 are reserved (R100). -/
def decodeUnit (u : BitVec 2) : Option CmpUnit :=
  match u.toNat with
  | 0 => some .a
  | 1 => some .b
  | _ => none

def encodeUnit : CmpUnit → BitVec 2
  | .a => 0#2
  | .b => 1#2

/-- CH field codes; 4 to 15 are reserved (R100). -/
def decodeChannel (ch : BitVec 4) : Option Channel :=
  match ch.toNat with
  | 0 => some .ch0
  | 1 => some .ch1
  | 2 => some .ch2
  | 3 => some .ch3
  | _ => none

def encodeChannel : Channel → BitVec 4
  | .ch0 => 0#4
  | .ch1 => 1#4
  | .ch2 => 2#4
  | .ch3 => 3#4

/-- SRC field codes: all eight values are sources (R60, R117). -/
def decodeSource (src : BitVec 3) : Source :=
  match src.toNat with
  | 0 => .t0Ovf
  | 1 => .t0Comp
  | 2 => .t1Ovf
  | 3 => .t1CompA
  | 4 => .t1CompB
  | 5 => .t1Capt
  | 6 => .t2Ovf
  | _ => .t2Comp

def encodeSource : Source → BitVec 3
  | .t0Ovf => 0#3
  | .t0Comp => 1#3
  | .t1Ovf => 2#3
  | .t1CompA => 3#3
  | .t1CompB => 4#3
  | .t1Capt => 5#3
  | .t2Ovf => 6#3
  | .t2Comp => 7#3

/-! ### Bus registers -/

/-- The data-space address of each register (R90, R104). -/
def Reg.addr : Reg → Byte
  | .tccr0 => 0x53#8
  | .tcnt0 => 0x52#8
  | .ocr0 => 0x5C#8
  | .tccr2 => 0x45#8
  | .tcnt2 => 0x44#8
  | .ocr2 => 0x43#8
  | .assr => 0x42#8
  | .tccr1a => 0x4F#8
  | .tccr1b => 0x4E#8
  | .tcnt1h => 0x4D#8
  | .tcnt1l => 0x4C#8
  | .ocr1ah => 0x4B#8
  | .ocr1al => 0x4A#8
  | .ocr1bh => 0x49#8
  | .ocr1bl => 0x48#8
  | .icr1h => 0x47#8
  | .icr1l => 0x46#8
  | .timsk => 0x59#8
  | .tifr => 0x58#8
  | .sfior => 0x50#8

/-- The register at an address; every other address is no transaction of the block (R46, R90). -/
def Reg.ofAddr (a : Byte) : Option Reg :=
  match a.toNat with
  | 0x42 => some .assr
  | 0x43 => some .ocr2
  | 0x44 => some .tcnt2
  | 0x45 => some .tccr2
  | 0x46 => some .icr1l
  | 0x47 => some .icr1h
  | 0x48 => some .ocr1bl
  | 0x49 => some .ocr1bh
  | 0x4A => some .ocr1al
  | 0x4B => some .ocr1ah
  | 0x4C => some .tcnt1l
  | 0x4D => some .tcnt1h
  | 0x4E => some .tccr1b
  | 0x4F => some .tccr1a
  | 0x50 => some .sfior
  | 0x52 => some .tcnt0
  | 0x53 => some .tccr0
  | 0x58 => some .tifr
  | 0x59 => some .timsk
  | 0x5C => some .ocr0
  | _ => none

/-- The RD_ row of a register (R104). -/
def Reg.readInstr : Reg → Instr
  | .tccr0 => .rdTccr0
  | .tcnt0 => .rdTcnt0
  | .ocr0 => .rdOcr0
  | .tccr2 => .rdTccr2
  | .tcnt2 => .rdTcnt2
  | .ocr2 => .rdOcr2
  | .assr => .rdAssr
  | .tccr1a => .rdTccr1a
  | .tccr1b => .rdTccr1b
  | .tcnt1h => .rdTcnt1h
  | .tcnt1l => .rdTcnt1l
  | .ocr1ah => .rdOcr1ah
  | .ocr1al => .rdOcr1al
  | .ocr1bh => .rdOcr1bh
  | .ocr1bl => .rdOcr1bl
  | .icr1h => .rdIcr1h
  | .icr1l => .rdIcr1l
  | .timsk => .rdTimsk
  | .tifr => .rdTifr
  | .sfior => .rdSfior

/-- The WR_ row of a register (R104). -/
def Reg.writeInstr (r : Reg) (d : Byte) : Instr :=
  match r with
  | .tccr0 => .wrTccr0 d
  | .tcnt0 => .wrTcnt0 d
  | .ocr0 => .wrOcr0 d
  | .tccr2 => .wrTccr2 d
  | .tcnt2 => .wrTcnt2 d
  | .ocr2 => .wrOcr2 d
  | .assr => .wrAssr d
  | .tccr1a => .wrTccr1a d
  | .tccr1b => .wrTccr1b d
  | .tcnt1h => .wrTcnt1h d
  | .tcnt1l => .wrTcnt1l d
  | .ocr1ah => .wrOcr1ah d
  | .ocr1al => .wrOcr1al d
  | .ocr1bh => .wrOcr1bh d
  | .ocr1bl => .wrOcr1bl d
  | .icr1h => .wrIcr1h d
  | .icr1l => .wrIcr1l d
  | .timsk => .wrTimsk d
  | .tifr => .wrTifr d
  | .sfior => .wrSfior d

/-! ### Decoding, class by class -/

/-- The payload's upper and lower 16 bits (R101). -/
def Fields.high (f : Fields) : Half := f.payload.extractLsb' 16 16
def Fields.low (f : Fields) : Half := f.payload.extractLsb' 0 16

/-- The fields T, U and CH, unused by the classes BUSRD to SLOT, are 0 (R100, R117). -/
def Fields.noTimer (f : Fields) : Bool := f.t == 0#2 && f.u == 0#2 && f.ch == 0#4

/-- BUSRD: ADDR in bits 15:8, everything else 0 (R103). -/
def decodeBusRd (f : Fields) : Option Instr :=
  if f.op == 0#4 && f.noTimer && f.high == 0#16 && f.payload.extractLsb' 0 8 == 0#8 then
    (Reg.ofAddr (f.payload.extractLsb' 8 8)).map Reg.readInstr
  else none

/-- BUSWR: ADDR in bits 15:8, DATA in bits 7:0, everything else 0 (R103). -/
def decodeBusWr (f : Fields) : Option Instr :=
  if f.op == 0#4 && f.noTimer && f.high == 0#16 then
    (Reg.ofAddr (f.payload.extractLsb' 8 8)).map fun r => r.writeInstr (f.payload.extractLsb' 0 8)
  else none

/-- EVENT: CLK has no operand, a PIN action has LEVEL in bit 0 (R105). -/
def decodeEvent (f : Fields) : Option Instr :=
  if f.noTimer then
    let levelOnly := f.payload.extractLsb' 1 31 == 0#31
    let level := f.payload.getLsbD 0
    match f.op.toNat with
    | 0 => if f.payload == 0#32 then some .clk else none
    | 1 => if levelOnly then some (.pinT0 level) else none
    | 2 => if levelOnly then some (.pinT1 level) else none
    | 3 => if levelOnly then some (.pinIcp1 level) else none
    | _ => none
  else none

/-- CORE: no operand (R106). -/
def decodeCore (f : Fields) : Option Instr :=
  if f.noTimer && f.payload == 0#32 then
    match f.op.toNat with
    | 0 => some .sei
    | 1 => some .cli
    | 2 => some .accept
    | 3 => some .reti
    | _ => none
  else none

/-- SLOT: SRC in bits 18:16, CBID in bits 15:0 of SLOT_STORE (R107). -/
def decodeSlot (f : Fields) : Option Instr :=
  if f.noTimer && f.payload.extractLsb' 19 13 == 0#13 then
    let src := decodeSource (f.payload.extractLsb' 16 3)
    match f.op.toNat with
    | 0 => some (.slotStore src f.low)
    | 1 => if f.low == 0#16 then some (.invoke src) else none
    | _ => none
  else none

/-- A DRIVER row that uses T only (R114). -/
def Fields.timerOnly (f : Fields) : Option TimerId :=
  if f.u == 0#2 && f.ch == 0#4 then decodeTimer f.t else none

/-- A DRIVER row that uses T and U (R114). -/
def Fields.timerUnit (f : Fields) : Option (TimerId × CmpUnit) :=
  if f.ch == 0#4 then do return (← decodeTimer f.t, ← decodeUnit f.u) else none

/-- A DRIVER row that uses CH only (R114). -/
def Fields.channelOnly (f : Fields) : Option Channel :=
  if f.t == 0#2 && f.u == 0#2 then decodeChannel f.ch else none

/-- A DRIVER row whose T is fixed to 1: the capture interrupt (R114). -/
def Fields.timer1Only (f : Fields) : Bool := f.t == 1#2 && f.u == 0#2 && f.ch == 0#4

/-- DRIVER: the fifteen rows of R114; OP 15 is reserved. -/
def decodeDriver (f : Fields) : Option Instr :=
  match f.op.toNat with
  | 0 => if f.payload.extractLsb' 0 4 == 0#4 then
           f.timerUnit.map fun (t, u) => .init t u f.high (f.payload.extractLsb' 12 4)
             (f.payload.extractLsb' 8 4) (f.payload.extractLsb' 4 4)
         else none
  | 1 => if f.payload == 0#32 then f.timerOnly.map .disable else none
  | 2 => if f.high == 0#16 then f.timerUnit.map fun (t, u) => .setCompare t u f.low else none
  | 3 => if f.high == 0#16 then f.timerOnly.map fun t => .setTimer t f.low else none
  | 4 => if f.payload == 0#32 then f.timerOnly.map .getTimer else none
  | 5 => f.timerOnly.map fun t => .delayMs t f.payload
  | 6 => if f.high == 0#16 then f.timerOnly.map fun t => .enableOvfInt t f.low else none
  | 7 => if f.high == 0#16 then f.timerUnit.map fun (t, u) => .enableCmpInt t u f.low else none
  | 8 => if f.timer1Only && f.high == 0#16 then some (.enableCaptInt f.low) else none
  | 9 => if f.payload == 0#32 then f.timerOnly.map .disableOvfInt else none
  | 10 => if f.payload == 0#32 then f.timerUnit.map fun (t, u) => .disableCmpInt t u else none
  | 11 => if f.timer1Only && f.payload == 0#32 then some .disableCaptInt else none
  | 12 => if f.noTimer && f.payload.extractLsb' 3 29 == 0#29 then
            some (.dispatch (decodeSource (f.payload.extractLsb' 0 3)))
          else none
  | 13 => f.channelOnly.map fun ch => .pwmInit ch f.payload
  | 14 => if f.payload.extractLsb' 8 24 == 0#24 then
            f.channelOnly.map fun ch => .pwmWrite ch (f.payload.extractLsb' 0 8)
          else none
  | _ => none

/-- The row a word's fields match (R102): classes 6 to F are reserved. -/
def decodeFields (f : Fields) : Option Instr :=
  match f.cls.toNat with
  | 0 => decodeBusRd f
  | 1 => decodeBusWr f
  | 2 => decodeEvent f
  | 3 => decodeCore f
  | 4 => decodeSlot f
  | 5 => decodeDriver f
  | _ => none

/-- The action a word stands for; `none` is the refusal DECODE_INVALID (R116, R117, R403). -/
def decode (w : ActionWord) : Option Instr :=
  (decodeFields (Fields.ofWord w)).filter Instr.wellFormed

/-! ### Encoding -/

/-- Fields of a word that uses no T, U or CH. -/
def plainFields (cls op : BitVec 4) (payload : BitVec 32) : Fields := ⟨cls, op, 0#2, 0#2, 0#4, payload⟩

def busRdFields (r : Reg) : Fields := plainFields 0#4 0#4 (0#16 ++ r.addr ++ 0#8)

def busWrFields (r : Reg) (d : Byte) : Fields := plainFields 1#4 0#4 (0#16 ++ r.addr ++ d)

def pinFields (op : BitVec 4) (level : Bool) : Fields := plainFields 2#4 op (0#31 ++ BitVec.ofBool level)

/-- Fields of a DRIVER word with T and U (R114). -/
def timerFields (op : BitVec 4) (t : TimerId) (u : CmpUnit) (payload : BitVec 32) : Fields :=
  ⟨5#4, op, encodeTimer t, encodeUnit u, 0#4, payload⟩

/-- Fields of a DRIVER word with CH (R114). -/
def channelFields (op : BitVec 4) (ch : Channel) (payload : BitVec 32) : Fields :=
  ⟨5#4, op, 0#2, 0#2, encodeChannel ch, payload⟩

/-- The fields of an action's word (R103 to R107, R114). -/
def encodeFields : Instr → Fields
  | .rdTccr0 => busRdFields .tccr0
  | .rdTcnt0 => busRdFields .tcnt0
  | .rdOcr0 => busRdFields .ocr0
  | .rdTccr2 => busRdFields .tccr2
  | .rdTcnt2 => busRdFields .tcnt2
  | .rdOcr2 => busRdFields .ocr2
  | .rdAssr => busRdFields .assr
  | .rdTccr1a => busRdFields .tccr1a
  | .rdTccr1b => busRdFields .tccr1b
  | .rdTcnt1h => busRdFields .tcnt1h
  | .rdTcnt1l => busRdFields .tcnt1l
  | .rdOcr1ah => busRdFields .ocr1ah
  | .rdOcr1al => busRdFields .ocr1al
  | .rdOcr1bh => busRdFields .ocr1bh
  | .rdOcr1bl => busRdFields .ocr1bl
  | .rdIcr1h => busRdFields .icr1h
  | .rdIcr1l => busRdFields .icr1l
  | .rdTimsk => busRdFields .timsk
  | .rdTifr => busRdFields .tifr
  | .rdSfior => busRdFields .sfior
  | .wrTccr0 d => busWrFields .tccr0 d
  | .wrTcnt0 d => busWrFields .tcnt0 d
  | .wrOcr0 d => busWrFields .ocr0 d
  | .wrTccr2 d => busWrFields .tccr2 d
  | .wrTcnt2 d => busWrFields .tcnt2 d
  | .wrOcr2 d => busWrFields .ocr2 d
  | .wrAssr d => busWrFields .assr d
  | .wrTccr1a d => busWrFields .tccr1a d
  | .wrTccr1b d => busWrFields .tccr1b d
  | .wrTcnt1h d => busWrFields .tcnt1h d
  | .wrTcnt1l d => busWrFields .tcnt1l d
  | .wrOcr1ah d => busWrFields .ocr1ah d
  | .wrOcr1al d => busWrFields .ocr1al d
  | .wrOcr1bh d => busWrFields .ocr1bh d
  | .wrOcr1bl d => busWrFields .ocr1bl d
  | .wrIcr1h d => busWrFields .icr1h d
  | .wrIcr1l d => busWrFields .icr1l d
  | .wrTimsk d => busWrFields .timsk d
  | .wrTifr d => busWrFields .tifr d
  | .wrSfior d => busWrFields .sfior d
  | .clk => plainFields 2#4 0#4 0#32
  | .pinT0 level => pinFields 1#4 level
  | .pinT1 level => pinFields 2#4 level
  | .pinIcp1 level => pinFields 3#4 level
  | .sei => plainFields 3#4 0#4 0#32
  | .cli => plainFields 3#4 1#4 0#32
  | .accept => plainFields 3#4 2#4 0#32
  | .reti => plainFields 3#4 3#4 0#32
  | .slotStore src cbid => plainFields 4#4 0#4 (0#13 ++ encodeSource src ++ cbid)
  | .invoke src => plainFields 4#4 1#4 (0#13 ++ encodeSource src ++ 0#16)
  | .init t u count mode clksel comact => timerFields 0#4 t u (count ++ mode ++ clksel ++ comact ++ 0#4)
  | .disable t => timerFields 1#4 t .a 0#32
  | .setCompare t u value => timerFields 2#4 t u (0#16 ++ value)
  | .setTimer t value => timerFields 3#4 t .a (0#16 ++ value)
  | .getTimer t => timerFields 4#4 t .a 0#32
  | .delayMs t period => timerFields 5#4 t .a period
  | .enableOvfInt t cbid => timerFields 6#4 t .a (0#16 ++ cbid)
  | .enableCmpInt t u cbid => timerFields 7#4 t u (0#16 ++ cbid)
  | .enableCaptInt cbid => timerFields 8#4 .t1 .a (0#16 ++ cbid)
  | .disableOvfInt t => timerFields 9#4 t .a 0#32
  | .disableCmpInt t u => timerFields 10#4 t u 0#32
  | .disableCaptInt => timerFields 11#4 .t1 .a 0#32
  | .dispatch src => plainFields 5#4 12#4 (0#29 ++ encodeSource src)
  | .pwmInit ch freq => channelFields 13#4 ch freq
  | .pwmWrite ch duty => channelFields 14#4 ch (0#24 ++ duty)

/-- The word of an action. -/
def encode (i : Instr) : ActionWord := (encodeFields i).toWord

/-- The host's entry: the action the decoder reads from a word given as a number, numbered as
spec/opcode_table.json numbers it. An action is one 48-bit word (R119), so there is nothing to lay out; bits above
`nbits` count as 0. -/
def decodeTableWord (nbits w : Nat) : Option Instr :=
  decode (BitVec.ofNat 48 (w % 2 ^ nbits))

end Sys2Proof
end

