-- ==== Sys2Proof/Machine/State.lean ====
section
/-! DEFINITION. The state of the timer block, the reasons a step can stop, and reset (spec 10_state.md,
60_exceptions.md section 1). INVENTORY.md lists every field with its rule. -/

namespace Sys2Proof.Machine

/-- Counting direction of a timer (R26, R30, R38). -/
inductive Dir where
  | up | down
  deriving DecidableEq, Repr

/-- The fields of an 8-bit timer, Timer0 or Timer2 (R23 to R30). -/
structure Timer8 where
  /-- Waveform generation mode, WGMn1:WGMn0. -/
  wgm : BitVec 2
  /-- Compare output mode, COMn1:COMn0. -/
  com : BitVec 2
  /-- Clock select, CSn2:0. -/
  cs : BitVec 3
  /-- The counter TCNTn. -/
  tcnt : Byte
  /-- The compare register the CPU reads and writes. -/
  ocrBuf : Byte
  /-- The compare value the compare unit uses. -/
  ocrAct : Byte
  /-- Counting direction, used in phase-correct PWM. -/
  dir : Dir
  /-- The OCn latch. -/
  oc : Bool
  /-- The compare block: the next tick detects no match. -/
  blk : Bool
  deriving DecidableEq, Repr

/-- The fields of Timer1 (R32 to R38). -/
structure Timer1 where
  /-- Waveform generation mode, WGM13:WGM10 (split over TCCR1B and TCCR1A). -/
  wgm : BitVec 4
  comA : BitVec 2
  comB : BitVec 2
  cs : BitVec 3
  /-- Input-capture noise canceller enable. -/
  icnc : Bool
  /-- Input-capture edge select: true is rising. -/
  ices : Bool
  tcnt : Half
  ocrABuf : Half
  ocrAAct : Half
  ocrBBuf : Half
  ocrBAct : Half
  ocA : Bool
  ocB : Bool
  icr : Half
  /-- TEMP1, shared by the 16-bit registers (R37). -/
  temp : Byte
  dir : Dir
  blk : Bool
  deriving DecidableEq, Repr

/-- The last ICNC_SAMPLES = 4 samples of ICP1, oldest first (R9, R39). -/
structure IcpHist where
  s0 : Bool
  s1 : Bool
  s2 : Bool
  s3 : Bool
  deriving DecidableEq, Repr

/-- The callback slots, one per source: `none` is unregistered (R61). -/
structure Slots where
  t0Ovf : Option Half
  t0Comp : Option Half
  t1Ovf : Option Half
  t1CompA : Option Half
  t1CompB : Option Half
  t1Capt : Option Half
  t2Ovf : Option Half
  t2Comp : Option Half
  deriving DecidableEq, Repr

/-- The refusals of a timer step, with the information each records (R249, R401). -/
inductive TickRefusal where
  /-- WGM_RESERVED (R406): a Timer1 tick in WGM1 = 13. Safe. -/
  | wgmReserved
  /-- COM_RESERVED (R407): a tick of an 8-bit timer in a PWM mode with COM = 01. Safe. -/
  | comReserved (n : Timer8Id)
  /-- PWM_ABOVE_TOP (R408): a tick in a dual-slope mode with the count above TOP. Safe. -/
  | pwmAboveTop (n : TimerId) (tcnt top : Half)
  /-- TOP_TOO_SMALL (R409): a Timer1 tick in a variable-TOP PWM mode with TOP below 3. Safe. -/
  | topTooSmall (top : Half)
  deriving DecidableEq, Repr

/-- Why a step stops with a fault (R400). -/
inductive Fault where
  /-- CALLBACK_EMPTY (R405): raised by INVOKE of a source whose slot is empty, which the source calls undefined
  behaviour. Safe: the chip goes on, the model stops. -/
  | callbackEmpty (src : Source)
  /-- Raised by `step` in a run that has already faulted: no later action is defined (R402). Safe. -/
  | runFaulted
  deriving DecidableEq, Repr

/-- Why a step stops with a refusal (R401, and the model's own reasons). -/
inductive Refusal where
  /-- An instruction with no meaning yet; raised by a refused arm of `exec`, never by a meaning. Safe. -/
  | notModelled (mnemonic : String)
  /-- DECODE_INVALID (R403): raised by `step` for an illegal word at the head of the input, before any effect (when it
  is decoded is log 19). Safe. -/
  | decodeInvalid (w : ActionWord)
  /-- ASYNC_T2 (R404): raised by a write of ASSR with bit 3 set; records the byte. Safe. -/
  | asyncT2 (d : Byte)
  /-- The refusals of one CLK, all that apply (R402, R406 to R409); raised by CLK. Safe. -/
  | clockRefused (codes : List TickRefusal)
  /-- PWM_FREQ_ZERO (R410): raised by PWM_INIT with FREQ = 0. Safe. -/
  | pwmFreqZero (ch : Channel)
  /-- PWM_DUTY_RANGE (R411): raised by PWM_WRITE with DUTY above 100. Safe. -/
  | pwmDutyRange (ch : Channel) (duty : Byte)
  /-- RETI_UNMATCHED (R412): raised by RETI with no accepted interrupt outstanding. Safe. -/
  | retiUnmatched
  /-- Raised by ACCEPT where R332 does not enable it: no run has this step (log 9). Safe. -/
  | acceptNotEnabled
  /-- Raised by `step` when nothing is issued and the CPU has nothing in progress: the finite prefix of actions
  has ended (R8; log 10). Safe. -/
  | noAction
  /-- Raised by a driver meaning on a term that no legal word decodes to (R117; log 15). Safe. -/
  | illFormed
  /-- Raised by `step` in a run that has already been refused: no later action is defined (R402). Safe. -/
  | runRefused
  deriving DecidableEq, Repr

/-- One CPU action that an operation in progress still has to do, with the locals it has computed (R13). -/
inductive Micro where
  /-- `BusRead(r)` whose value the operation does not use. -/
  | rd (r : Reg)
  /-- `BusWrite(r, d)`. -/
  | wr (r : Reg) (d : Byte)
  | sei
  | cli
  | reti
  | slotStore (src : Source) (cbid : Half)
  | invoke (src : Source)
  /-- `RMW(r, v ↦ (v & keep) | set)`: the read; the write follows it (R13). -/
  | rmw (r : Reg) (keep set : Byte)
  /-- INIT step 4 on an 8-bit timer: the read of TCCRn (R301). -/
  | initCom (n : Timer8Id) (act : BitVec 2)
  /-- INIT step 4 on Timer1: the read of TCCR1B (R302). -/
  | initCom1 (u : CmpUnit) (act : BitVec 2)
  /-- INIT step 4 on Timer1: the read of TCCR1A, with w the byte read from TCCR1B (R302). -/
  | initCom1A (u : CmpUnit) (act : BitVec 2) (w : Byte)
  /-- SET_TIMER T1: the CLI that opens the critical section (R306). -/
  | setTimer1 (value : Half)
  /-- GET_TIMER of an 8-bit timer: the read whose value is returned (R307). -/
  | getTimer8 (n : Timer8Id)
  /-- GET_TIMER T1: the CLI that opens the critical section (R307). -/
  | getTimer1
  /-- GET_TIMER T1: the read of TCNT1L; g is the saved GIE. -/
  | getTimer1L (g : Bool)
  /-- GET_TIMER T1: the read of TCNT1H; lo is the byte read from TCNT1L. -/
  | getTimer1H (g : Bool) (lo : Byte)
  /-- GET_TIMER T1: the SEI that closes the critical section, after which v is returned. -/
  | getTimer1Ret (v : Half)
  /-- DELAY_MS step 4: the poll of TIFR, with `left` ≥ 1 overflows still to count (R321). -/
  | poll (n : Timer8Id) (left : Nat)
  /-- A pseudo-operation the spec refuses as a whole when it starts (R372, R373). -/
  | refuse (r : Refusal)
  deriving DecidableEq, Repr

/-- What the environment issues next (R6, R7; log 1, log 2). -/
inductive Input where
  /-- An action word, taken when the CPU has no operation in progress. -/
  | word (w : ActionWord)
  /-- An action word of the clock or pin environment that comes while the CPU's operation is in progress. -/
  | during (w : ActionWord)
  /-- The CPU's turn: its next CPU-side step. -/
  | cpu
  deriving DecidableEq, Repr

/-- The state of the block, its ports to the CPU, and what is issued and in progress. -/
structure State where
  t0 : Timer8
  t1 : Timer1
  t2 : Timer8
  /-- ASSR.AS2 (R31). -/
  as2 : Bool
  /-- The prescaler of Timer0 and Timer1 (R40). -/
  p01 : BitVec 10
  /-- The prescaler of Timer2 (R40). -/
  p2 : BitVec 10
  /-- SFIOR_other: ADTS2:0, ACME and PUD (R45). -/
  adts : BitVec 3
  acme : Bool
  pud : Bool
  /-- Pin levels and samples of T0 and T1 (R41). -/
  t0Pin : Bool
  t1Pin : Bool
  t0Smp : Bool
  t1Smp : Bool
  /-- Input-capture front end (R39). -/
  icpPin : Bool
  icpHist : IcpHist
  icpFilt : Bool
  /-- Interrupt mask and flags (R42, R43). -/
  timsk : Byte
  tifr : Byte
  /-- Callback slot table (R61). -/
  slots : Slots
  /-- Global interrupt enable (R62). -/
  gie : Bool
  /-- Interrupt shadow (R63). -/
  shadow : Bool
  /-- Accepted sources not yet returned from, innermost first (R64). -/
  isr : List Source
  /-- Recorded fault and refusal codes (R65). -/
  faults : List Fault
  refusals : List Refusal
  /-- The byte the last bus read returned to the CPU (R20, R150). -/
  rdata : Byte
  /-- The value GET_TIMER last returned (R307). -/
  result : Half
  /-- The vector address ACCEPT last presented (R20, R333). -/
  vector : Half
  /-- The CPU actions of the operations in progress, next first (R13, R338, R344; the model's own field, log 3). -/
  pending : List Micro
  /-- What the environment issues, next first (R6; the model's own field, log 1). -/
  input : List Input
  deriving DecidableEq, Repr

/-- The outcome of a step or of an action. -/
abbrev Result := Host.Outcome State Fault Refusal

/-- What R442 leaves unspecified at reset: any value of each is a reset of the block. -/
structure Draw where
  temp : Byte
  t0Pin : Bool
  t1Pin : Bool
  t0Smp : Bool
  t1Smp : Bool
  icpPin : Bool
  icpHist : IcpHist
  icpFilt : Bool
  deriving DecidableEq, Repr

/-- The draw the model names for `State.reset`: every unspecified bit 0 (DESIGN CHOICE, log 4). -/
def Draw.zero : Draw := ⟨0#8, false, false, false, false, false, ⟨false, false, false, false⟩, false⟩

/-- Timer0 or Timer2 after reset (R70). -/
def Timer8.reset : Timer8 := ⟨0#2, 0#2, 0#3, 0#8, 0#8, 0#8, .up, false, false⟩

/-- Timer1 after reset (R70), with TEMP1 drawn (R442). -/
def Timer1.resetWith (temp : Byte) : Timer1 where
  wgm := 0#4
  comA := 0#2
  comB := 0#2
  cs := 0#3
  icnc := false
  ices := false
  tcnt := 0#16
  ocrABuf := 0#16
  ocrAAct := 0#16
  ocrBBuf := 0#16
  ocrBAct := 0#16
  ocA := false
  ocB := false
  icr := 0#16
  temp := temp
  dir := .up
  blk := false

/-- The state after reset for each draw of what R442 leaves unspecified (R70, R440). -/
def State.resetWith (d : Draw) : State where
  t0 := Timer8.reset
  t1 := Timer1.resetWith d.temp
  t2 := Timer8.reset
  as2 := false
  p01 := 0#10
  p2 := 0#10
  adts := 0#3
  acme := false
  pud := false
  t0Pin := d.t0Pin
  t1Pin := d.t1Pin
  t0Smp := d.t0Smp
  t1Smp := d.t1Smp
  icpPin := d.icpPin
  icpHist := d.icpHist
  icpFilt := d.icpFilt
  timsk := 0#8
  tifr := 0#8
  slots := ⟨none, none, none, none, none, none, none, none⟩
  gie := false
  shadow := false
  isr := []
  faults := []
  refusals := []
  rdata := 0#8
  result := 0#16
  vector := 0#16
  pending := []
  input := []

/-- The machine right after reset (R70), with the draw named in log 4. -/
def State.reset : State := State.resetWith Draw.zero

end Sys2Proof.Machine
end

