-- ==== Sys2Proof/Machine/Operands.lean ====
section
/-! DEFINITION. The codes inside registers and driver operands: waveform modes, clock selects, sources, registers of
a timer, PWM channels (spec 30_encoding.md section 4, 42, 44, 45). -/

namespace Sys2Proof.Machine

/-! ### Waveform modes -/

/-- The class column of R110 and R111. -/
inductive WaveClass where
  | normal | ctc | fast | pc | pfc | reserved
  deriving DecidableEq, Repr

/-- Class of an 8-bit timer's mode (R110). -/
def class8 (wgm : BitVec 2) : WaveClass :=
  match wgm.toNat with
  | 0 => .normal
  | 1 => .pc
  | 2 => .ctc
  | _ => .fast

/-- Class of Timer1's mode (R111). -/
def class1 (wgm : BitVec 4) : WaveClass :=
  match wgm.toNat with
  | 0 => .normal
  | 1 => .pc
  | 2 => .pc
  | 3 => .pc
  | 4 => .ctc
  | 5 => .fast
  | 6 => .fast
  | 7 => .fast
  | 8 => .pfc
  | 9 => .pfc
  | 10 => .pc
  | 11 => .pc
  | 12 => .ctc
  | 13 => .reserved
  | 14 => .fast
  | _ => .fast

/-- The classes whose active compare value follows the buffer at once (R174, R175). -/
def WaveClass.unbuffered : WaveClass → Bool
  | .normal | .ctc | .reserved => true
  | .fast | .pc | .pfc => false

/-- The classes that count both ways (R242). -/
def WaveClass.dualSlope : WaveClass → Bool
  | .pc | .pfc => true
  | .normal | .ctc | .fast | .reserved => false

/-- TOP of an 8-bit timer (R110, R240). -/
def Timer8.top (t : Timer8) : Byte :=
  match class8 t.wgm with
  | .ctc => t.ocrAct
  | _ => 0xFF#8

/-- TOP of Timer1 (R111, R240); mode 13 has none, and a tick in it is refused (R249). -/
def Timer1.top (t : Timer1) : Half :=
  match t.wgm.toNat with
  | 0 => 0xFFFF#16
  | 1 => 0x00FF#16
  | 2 => 0x01FF#16
  | 3 => 0x03FF#16
  | 4 => t.ocrAAct
  | 5 => 0x00FF#16
  | 6 => 0x01FF#16
  | 7 => 0x03FF#16
  | 8 => t.icr
  | 9 => t.ocrAAct
  | 10 => t.icr
  | 11 => t.ocrAAct
  | 12 => t.icr
  | 13 => 0xFFFF#16
  | 14 => t.icr
  | _ => t.ocrAAct

/-- WGM1 ∈ {8, 10, 12, 14}: ICR1 is TOP (R193, R248, R272). -/
def icrIsTop (wgm : BitVec 4) : Bool :=
  match wgm.toNat with
  | 8 | 10 | 12 | 14 => true
  | _ => false

/-- WGM1 ∈ {8, 9, 10, 11, 14, 15}: a PWM mode whose TOP is a register (R249). -/
def variableTopPwm (wgm : BitVec 4) : Bool :=
  match wgm.toNat with
  | 8 | 9 | 10 | 11 | 14 | 15 => true
  | _ => false

/-- WGM1 ∈ {9, 11, 15}: COM1A = 01 toggles OC1A (R264). -/
def toggleCase (wgm : BitVec 4) : Bool :=
  match wgm.toNat with
  | 9 | 11 | 15 => true
  | _ => false

/-! ### Clock selects -/

/-- What a clock select names (R108, R109). -/
inductive ClockSel where
  | stopped
  | divided (n : Nat)
  | falling
  | rising
  deriving DecidableEq, Repr

/-- CS codes of Timer0 and Timer1 (R108). -/
def clockSel01 (cs : BitVec 3) : ClockSel :=
  match cs.toNat with
  | 0 => .stopped
  | 1 => .divided 1
  | 2 => .divided 8
  | 3 => .divided 64
  | 4 => .divided 256
  | 5 => .divided 1024
  | 6 => .falling
  | _ => .rising

/-- CS codes of Timer2 (R109). -/
def clockSel2 (cs : BitVec 3) : ClockSel :=
  match cs.toNat with
  | 0 => .stopped
  | 1 => .divided 1
  | 2 => .divided 8
  | 3 => .divided 32
  | 4 => .divided 64
  | 5 => .divided 128
  | 6 => .divided 256
  | _ => .divided 1024

/-! ### Interrupt sources -/

/-- The bit of a source in TIFR and in TIMSK: fbit and mbit are equal (R60). -/
def sourceBit : Source → Nat
  | .t0Ovf => 0
  | .t0Comp => 1
  | .t1Ovf => 2
  | .t1CompA => 4
  | .t1CompB => 3
  | .t1Capt => 5
  | .t2Ovf => 6
  | .t2Comp => 7

/-- Vector word address of a source (R340). -/
def vectorOf : Source → Half
  | .t2Comp => 0x008#16
  | .t2Ovf => 0x00A#16
  | .t1Capt => 0x00C#16
  | .t1CompA => 0x00E#16
  | .t1CompB => 0x010#16
  | .t1Ovf => 0x012#16
  | .t0Comp => 0x014#16
  | .t0Ovf => 0x016#16

/-- The sources in priority order, lowest vector number first (R340). -/
def priorityOrder : List Source :=
  [.t2Comp, .t2Ovf, .t1Capt, .t1CompA, .t1CompB, .t1Ovf, .t0Comp, .t0Ovf]

/-- `S.slot[src]` (R61). -/
def slotOf (sl : Slots) : Source → Option Half
  | .t0Ovf => sl.t0Ovf
  | .t0Comp => sl.t0Comp
  | .t1Ovf => sl.t1Ovf
  | .t1CompA => sl.t1CompA
  | .t1CompB => sl.t1CompB
  | .t1Capt => sl.t1Capt
  | .t2Ovf => sl.t2Ovf
  | .t2Comp => sl.t2Comp

/-- `S.slot[src] <- v`. -/
def setSlot (sl : Slots) (src : Source) (v : Option Half) : Slots :=
  match src with
  | .t0Ovf => { sl with t0Ovf := v }
  | .t0Comp => { sl with t0Comp := v }
  | .t1Ovf => { sl with t1Ovf := v }
  | .t1CompA => { sl with t1CompA := v }
  | .t1CompB => { sl with t1CompB := v }
  | .t1Capt => { sl with t1Capt := v }
  | .t2Ovf => { sl with t2Ovf := v }
  | .t2Comp => { sl with t2Comp := v }

/-! ### Driver operands -/

/-- An 8-bit timer as a timer. -/
def timerOf8 : Timer8Id → TimerId
  | .t0 => .t0
  | .t2 => .t2

/-- TCCRn, TCNTn and OCRn of an 8-bit timer (R300). -/
def tccrOf : Timer8Id → Reg
  | .t0 => .tccr0
  | .t2 => .tccr2

def tcntOf : Timer8Id → Reg
  | .t0 => .tcnt0
  | .t2 => .tcnt2

def ocrOf : Timer8Id → Reg
  | .t0 => .ocr0
  | .t2 => .ocr2

/-- OCR1xH and OCR1xL of a Timer1 unit (R300, R305). -/
def ocr1HighOf : CmpUnit → Reg
  | .a => .ocr1ah
  | .b => .ocr1bh

def ocr1LowOf : CmpUnit → Reg
  | .a => .ocr1al
  | .b => .ocr1bl

/-- comshift(U): the place of COM1x in TCCR1A (R300). -/
def comShift : CmpUnit → Nat
  | .a => 6
  | .b => 4

/-- ovf(n): the overflow source of a timer (44_interrupt_dispatch.md section 4). -/
def ovfSource : TimerId → Source
  | .t0 => .t0Ovf
  | .t1 => .t1Ovf
  | .t2 => .t2Ovf

/-- cmp(n, U): the compare source of a timer's unit (44_interrupt_dispatch.md section 4). -/
def cmpSource : TimerId → CmpUnit → Source
  | .t0, _ => .t0Comp
  | .t1, .a => .t1CompA
  | .t1, .b => .t1CompB
  | .t2, _ => .t2Comp

/-- valid_com for an 8-bit timer: toggle only in modes 0 and 2 (R303). -/
def validCom8 (mode : BitVec 2) (act : BitVec 2) : Bool :=
  act != 1#2 || mode == 0#2 || mode == 2#2

/-- valid_com for Timer1: toggle only in modes 0, 4 and 12 (R303). -/
def validCom1 (mode : BitVec 4) (act : BitVec 2) : Bool :=
  act != 1#2 || mode == 0#4 || mode == 4#4 || mode == 12#4

/-- timer(ch) and unit(ch) (R370). -/
def channelTimer : Channel → TimerId
  | .ch0 => .t0
  | .ch1 => .t1
  | .ch2 => .t1
  | .ch3 => .t2

def channelUnit : Channel → CmpUnit
  | .ch2 => .b
  | _ => .a

/-- The CS code of a divisor of R371 for Timer0 and Timer1, and for Timer2 (R372 step 2). -/
def divisorCode (t : TimerId) (d : Nat) : BitVec 4 :=
  match t with
  | .t2 => match d with
    | 1024 => 7#4
    | 256 => 6#4
    | 64 => 4#4
    | 8 => 2#4
    | _ => 1#4
  | _ => match d with
    | 1024 => 5#4
    | 256 => 4#4
    | 64 => 3#4
    | 8 => 2#4
    | _ => 1#4

/-- The first of the candidate divisors that `ideal` reaches (R371). -/
def firstDivisor (ideal : Nat) : List Nat → Nat
  | [] => Config.pwmPrescalerFallback
  | d :: ds => if ideal / d ≠ 0 then d else firstDivisor ideal ds

/-- pwm_divisor(FREQ) at a clock of `fCpu` Hz (R371). -/
def pwmDivisor (fCpu freq : Nat) : Nat :=
  firstDivisor (fCpu / (freq * 256)) [1024, 256, 64, 8, 1]

/-- The compare value of a duty in percent, with top = 255 (R373). -/
def pwmCompare (duty : Byte) : Half := BitVec.ofNat 16 (255 * duty.toNat / 100)

/-- N, the number of overflows DELAY_MS counts at a clock of `fCpu` Hz (R320). -/
def delayCount (fCpu period : Nat) : Nat := period * fCpu / ((Config.delayTop + 1) * 1000)

end Sys2Proof.Machine
end

