-- ==== Sys2Proof/Machine/Flags.lean ====
section
/-! DEFINITION. The flag register TIFR: which flags an event sets, pending sources and the arbiter's choice
(spec R43, R246 to R248, R331, R340). -/

namespace Sys2Proof.Machine

/-- The flag bit of a source, if it is to be set. -/
def flagIf (src : Source) (set : Bool) : Byte := if set then onehot (sourceBit src) else 0#8

/-- Flags set by a Timer0 step: TOV0 and OCF0 (R246, R247). -/
def flags0 (ovf matched : Bool) : Byte := flagIf .t0Ovf ovf ||| flagIf .t0Comp matched

/-- Flags set by a Timer2 step: TOV2 and OCF2 (R246, R247). -/
def flags2 (ovf matched : Bool) : Byte := flagIf .t2Ovf ovf ||| flagIf .t2Comp matched

/-- Flags set by a Timer1 step: TOV1, OCF1A, OCF1B and ICF1 at TOP (R246, R247, R248). -/
def flags1 (ovf matchedA matchedB icf : Bool) : Byte :=
  flagIf .t1Ovf ovf ||| flagIf .t1CompA matchedA ||| flagIf .t1CompB matchedB ||| flagIf .t1Capt icf

/-- `S.TIFR[fbit(src)] <- 0` (R333). -/
def clearFlag (src : Source) (tifr : Byte) : Byte := tifr &&& ~~~ onehot (sourceBit src)

/-- Write-one-to-clear (R207). -/
def clearWritten (d tifr : Byte) : Byte := tifr &&& ~~~ d

/-- pending(src): flag and mask bit both 1 (R331). -/
def State.pendingSource (s : State) (src : Source) : Bool :=
  s.tifr.getLsbD (sourceBit src) && s.timsk.getLsbD (sourceBit src)

/-- The pending source of highest priority (R340). -/
def State.selectSource (s : State) : Option Source :=
  priorityOrder.find? s.pendingSource

/-- ACCEPT is enabled: GIE, no shadow, a pending source, and a run neither faulted nor refused (R332). This is also
the interrupt request the block presents to the CPU (R20). -/
def State.acceptEnabled (s : State) : Bool :=
  s.gie && !s.shadow && s.selectSource.isSome && s.faults.isEmpty && s.refusals.isEmpty

end Sys2Proof.Machine
end

