-- ==== Sys2Proof/Machine/Counter.lean ====
section
/-! DEFINITION. The counter unit: counting, compare, waveform, one timer step, input capture and ticks
(spec 41_counter_unit.md). Counting is computed on natural numbers and narrowed where it is stored. -/

namespace Sys2Proof.Machine

/-! ### Counting -/

/-- What step 3 of a timer step computes (R238). -/
structure CountStep where
  next : Nat
  dir : Dir
  wrap : Bool
  ovf : Bool
  atTop : Bool
  atBottom : Bool
  deriving DecidableEq, Repr

/-- NORMAL class (R241). -/
def countNormal (max top c : Nat) (d : Dir) : CountStep where
  next := (c + 1) % (max + 1)
  dir := d
  wrap := (c + 1) % (max + 1) == 0
  ovf := c == max
  atTop := c == top
  atBottom := false

/-- CTC class (R241). -/
def countCtc (max top c : Nat) (d : Dir) : CountStep where
  next := if c = top then 0 else (c + 1) % (max + 1)
  dir := d
  wrap := c == top || (c + 1) % (max + 1) == 0
  ovf := c == max
  atTop := c == top
  atBottom := false

/-- FAST class (R243). -/
def countFast (max top c : Nat) (d : Dir) : CountStep where
  next := if c = top ∨ c = max then 0 else c + 1
  dir := d
  wrap := c == top || c == max
  ovf := c == top || c == max
  atTop := c == top
  atBottom := false

/-- PC and PFC classes (R242). A count above TOP is refused before this is used (R249). -/
def countDual (top c : Nat) (d : Dir) : CountStep :=
  match d with
  | .up =>
    if c = top then ⟨c - 1, .down, false, false, true, false⟩
    else ⟨c + 1, .up, false, false, false, false⟩
  | .down =>
    if c = 0 then ⟨1, .up, false, true, false, true⟩
    else ⟨c - 1, .down, false, false, false, false⟩

/-- Step 3 of a timer step, by class (R238). RESERVED is refused before this is used (R249). -/
def count (cls : WaveClass) (max top c : Nat) (d : Dir) : CountStep :=
  match cls with
  | .normal => countNormal max top c d
  | .ctc => countCtc max top c d
  | .fast => countFast max top c d
  | .pc => countDual top c d
  | .pfc => countDual top c d
  | .reserved => ⟨c, d, false, false, false, false⟩

/-- The compare-buffer update point of a class (R250). -/
def updatePoint (cls : WaveClass) (k : CountStep) : Bool :=
  match cls with
  | .fast => k.wrap
  | .pc => k.atTop
  | .pfc => k.atBottom
  | .normal | .ctc | .reserved => false

/-! ### Waveform -/

/-- The action of a match on the OCn latch in NORMAL and CTC (R260). -/
def matchAction (com : BitVec 2) (oc : Bool) : Bool :=
  match com.toNat with
  | 0 => oc
  | 1 => !oc
  | 2 => false
  | _ => true

/-- FAST class: the match action, then the action at the wrap (R261). -/
def waveFast (com : BitVec 2) (toggles matched wrap oc : Bool) : Bool :=
  match com.toNat with
  | 0 => oc
  | 1 => if matched && toggles then !oc else oc
  | 2 => if wrap then true else if matched then false else oc
  | _ => if wrap then false else if matched then true else oc

/-- PC and PFC classes: the match action by the tick's direction (R263). -/
def waveDual (com : BitVec 2) (toggles matched up oc : Bool) : Bool :=
  if matched then
    match com.toNat with
    | 0 => oc
    | 1 => if toggles then !oc else oc
    | 2 => !up
    | _ => up
  else oc

/-- Step 5 of a timer step on one unit's latch (R260, R261, R263). -/
def wave (cls : WaveClass) (com : BitVec 2) (toggles matched wrap up oc : Bool) : Bool :=
  match cls with
  | .normal | .ctc => if matched then matchAction com oc else oc
  | .fast => waveFast com toggles matched wrap oc
  | .pc | .pfc => waveDual com toggles matched up oc
  | .reserved => oc

/-- Force output compare (R266): the match action in NORMAL and CTC, no effect elsewhere. -/
def forced (cls : WaveClass) (com : BitVec 2) (oc : Bool) : Bool :=
  match cls with
  | .normal | .ctc => matchAction com oc
  | .fast | .pc | .pfc | .reserved => oc

/-- The direction of a tick is up (R238): the count rises, or wraps to 0 outside PC and PFC. -/
def tickUp (c : Nat) (k : CountStep) : Bool := decide (c < k.next) || k.wrap

/-! ### One timer step -/

/-- Count and class of an 8-bit timer's next step. -/
def Timer8.countStep (t : Timer8) : CountStep :=
  count (class8 t.wgm) 0xFF t.top.toNat t.tcnt.toNat t.dir

/-- Compare match of an 8-bit timer (R244, R245). -/
def Timer8.matched (t : Timer8) : Bool := !t.blk && t.tcnt == t.ocrAct

/-- Steps 3 and 5 to 7 of a timer step on an 8-bit timer (R238); its flags are `countStep.ovf` and `matched`. -/
def Timer8.step (t : Timer8) : Timer8 :=
  let k := t.countStep
  { t with
    tcnt := BitVec.ofNat 8 k.next
    dir := k.dir
    oc := wave (class8 t.wgm) t.com false t.matched k.wrap (tickUp t.tcnt.toNat k) t.oc
    ocrAct := if updatePoint (class8 t.wgm) k then t.ocrBuf else t.ocrAct
    blk := false }

def Timer1.countStep (t : Timer1) : CountStep :=
  count (class1 t.wgm) 0xFFFF t.top.toNat t.tcnt.toNat t.dir

/-- Compare match of Timer1's units (R244, R245). -/
def Timer1.matchedA (t : Timer1) : Bool := !t.blk && t.tcnt == t.ocrAAct
def Timer1.matchedB (t : Timer1) : Bool := !t.blk && t.tcnt == t.ocrBAct

/-- Steps 3 and 5 to 7 of a timer step on Timer1 (R238). -/
def Timer1.step (t : Timer1) : Timer1 :=
  let k := t.countStep
  let up := tickUp t.tcnt.toNat k
  let update := updatePoint (class1 t.wgm) k
  { t with
    tcnt := BitVec.ofNat 16 k.next
    dir := k.dir
    ocA := wave (class1 t.wgm) t.comA (toggleCase t.wgm) t.matchedA k.wrap up t.ocA
    ocB := wave (class1 t.wgm) t.comB false t.matchedB k.wrap up t.ocB
    ocrAAct := if update then t.ocrABuf else t.ocrAAct
    ocrBAct := if update then t.ocrBBuf else t.ocrBAct
    blk := false }

/-- Flags a step of each timer sets (step 4 of R238). -/
def Timer8.stepFlags0 (t : Timer8) : Byte := flags0 t.countStep.ovf t.matched
def Timer8.stepFlags2 (t : Timer8) : Byte := flags2 t.countStep.ovf t.matched
def Timer1.stepFlags (t : Timer1) : Byte :=
  flags1 t.countStep.ovf t.matchedA t.matchedB (t.countStep.atTop && icrIsTop t.wgm)

/-! ### Refusals of a timer step (R249) -/

/-- The refusals of a step of an 8-bit timer. -/
def Timer8.refusals (n : Timer8Id) (t : Timer8) : List TickRefusal :=
  (if (class8 t.wgm == .fast || class8 t.wgm == .pc) && t.com == 1#2 then [.comReserved n] else []) ++
  (if (class8 t.wgm).dualSlope && decide (t.top.toNat < t.tcnt.toNat) then
    [.pwmAboveTop (timerOf8 n) (t.tcnt.setWidth 16) (t.top.setWidth 16)] else [])

/-- The refusals of a step of Timer1. -/
def Timer1.refusals (t : Timer1) : List TickRefusal :=
  (if t.wgm == 13#4 then [.wgmReserved] else []) ++
  (if (class1 t.wgm).dualSlope && decide (t.top.toNat < t.tcnt.toNat) then
    [.pwmAboveTop .t1 t.tcnt t.top] else []) ++
  (if variableTopPwm t.wgm && decide (t.top.toNat < 3) then [.topTooSmall t.top] else [])

/-! ### Clock: sampling, prescalers, ticks -/

/-- A falling and a rising edge of a sampled pin (R234). -/
def fallEdge (smp pin : Bool) : Bool := smp && !pin
def riseEdge (smp pin : Bool) : Bool := !smp && pin

/-- tick(n): whether the selected clock gives a count pulse, from the prescaler after its increment and the edges
of this CLK (R233). -/
def ticks (sel : ClockSel) (p : BitVec 10) (fall rise : Bool) : Bool :=
  match sel with
  | .stopped => false
  | .divided n => p.toNat % n == 0
  | .falling => fall
  | .rising => rise

/-- Shift a sample into the history (R271). -/
def IcpHist.push (h : IcpHist) (v : Bool) : IcpHist := ⟨h.s1, h.s2, h.s3, v⟩

/-- All four samples equal v. -/
def IcpHist.all (h : IcpHist) (v : Bool) : Bool := h.s0 == v && h.s1 == v && h.s2 == v && h.s3 == v

/-- The filtered ICP1 level after this CLK's sample (R271). -/
def filteredLevel (icnc pin filt : Bool) (h : IcpHist) : Bool :=
  if icnc then
    if h.all true then true else if h.all false then false else filt
  else pin

/-- The transition ICES1 selects (R270). -/
def captureEdge (ices old new : Bool) : Bool := if ices then !old && new else old && !new

/-- Step 1 of CLK, second part: the ICP1 front end and the capture (R270 to R272). -/
def captureFrontEnd (s : State) : State :=
  let hist := s.icpHist.push s.icpPin
  let new := filteredLevel s.t1.icnc s.icpPin s.icpFilt hist
  let captured := captureEdge s.t1.ices s.icpFilt new && !icrIsTop s.t1.wgm
  { s with
    icpHist := hist
    icpFilt := new
    t1 := if captured then { s.t1 with icr := s.t1.tcnt } else s.t1
    tifr := s.tifr ||| flagIf .t1Capt captured }

/-- Ticks of this CLK, seen from the state the CLK starts in (R233, R234): the prescalers count first. -/
def tick0 (s : State) : Bool :=
  ticks (clockSel01 s.t0.cs) (s.p01 + 1#10) (fallEdge s.t0Smp s.t0Pin) (riseEdge s.t0Smp s.t0Pin)
def tick1 (s : State) : Bool :=
  ticks (clockSel01 s.t1.cs) (s.p01 + 1#10) (fallEdge s.t1Smp s.t1Pin) (riseEdge s.t1Smp s.t1Pin)
def tick2 (s : State) : Bool :=
  ticks (clockSel2 s.t2.cs) (s.p2 + 1#10) false false

/-- Steps 1 and 2 of CLK: sampling, capture and prescalers (R230). -/
def clockFront (s : State) : State :=
  { captureFrontEnd s with
    t0Smp := s.t0Pin
    t1Smp := s.t1Pin
    p01 := s.p01 + 1#10
    p2 := s.p2 + 1#10 }

/-- All refusals of this CLK, Timer0 first (R249, R402). The capture of step 1 changes no TOP (R272). -/
def clockRefusals (s : State) : List TickRefusal :=
  (if tick0 s then s.t0.refusals .t0 else []) ++
  (if tick1 s then s.t1.refusals else []) ++
  (if tick2 s then s.t2.refusals .t2 else [])

/-- Step 3 of CLK on a state s whose ticks are given: each ticking timer steps (R230, R232). -/
def stepTimers (k0 k1 k2 : Bool) (s : State) : State :=
  { s with
    t0 := if k0 then s.t0.step else s.t0
    t1 := if k1 then s.t1.step else s.t1
    t2 := if k2 then s.t2.step else s.t2
    tifr := s.tifr ||| (if k0 then s.t0.stepFlags0 else 0#8) ||| (if k1 then s.t1.stepFlags else 0#8) |||
      (if k2 then s.t2.stepFlags2 else 0#8) }

/-- The state after a CLK that is not refused (R230). -/
def clocked (s : State) : State := stepTimers (tick0 s) (tick1 s) (tick2 s) (clockFront s)

/-! ### Outputs -/

/-- The four output pins (R20). -/
inductive OutPin where
  | oc0 | oc1a | oc1b | oc2
  deriving DecidableEq, Repr

/-- Whether COM = 01 is disconnected: a PWM class that is no toggle case (R262). -/
def disconnectedToggle (cls : WaveClass) (com : BitVec 2) (toggles : Bool) : Bool :=
  com == 1#2 && (cls == .fast || cls == .pc || cls == .pfc) && !toggles

/-- What a unit drives its pin with, `none` while the pin is DIO's (R262). -/
def unitDrive (cls : WaveClass) (com : BitVec 2) (toggles oc : Bool) : Option Bool :=
  if com == 0#2 || disconnectedToggle cls com toggles then none else some oc

/-- An 8-bit timer's unit, with the timer's prescaler: COM = 01 in a PWM mode has no defined drive (R265; log 13). -/
def Timer8.drive (n : Timer8Id) (p : BitVec 10) (t : Timer8) : Option Bool :=
  if disconnectedToggle (class8 t.wgm) t.com false then
    Config.reservedDrive (match n with | .t0 => 0 | .t2 => 2) t.tcnt p
  else unitDrive (class8 t.wgm) t.com false t.oc

/-- What the block drives each output pin with (R20, R262). -/
def State.outputPin (s : State) : OutPin → Option Bool
  | .oc0 => s.t0.drive .t0 s.p01
  | .oc1a => unitDrive (class1 s.t1.wgm) s.t1.comA (toggleCase s.t1.wgm) s.t1.ocA
  | .oc1b => unitDrive (class1 s.t1.wgm) s.t1.comB false s.t1.ocB
  | .oc2 => s.t2.drive .t2 s.p2

end Sys2Proof.Machine
end

