-- ==== Sys2Proof/Machine/Ops.lean ====
section
/-! DEFINITION. The named operations over the registers and the CPU side: register reads and writes, the CPU-action
postlude, taking an interrupt and returning from one, slots, the expansions of the driver pseudo-operations and the
CPU action an operation in progress does next (spec 40, 42 to 45). -/

namespace Sys2Proof.Machine

/-! ### Postlude and pending actions -/

/-- The CPU-action postlude: the shadow after SEI or RETI, cleared after any other CPU action (R339). -/
def State.postlude (s : State) (shadow : Bool) : State := { s with shadow := shadow }

/-- Put CPU actions in front of those in progress. -/
def State.push (s : State) (ms : List Micro) : State := { s with pending := ms ++ s.pending }

/-! ### Register reads: the byte, and the state after the side effect -/

/-- TCCR0 and TCCR2: the FOC bit reads 0 (R152, R160). -/
def Timer8.readTccr (t : Timer8) : Byte :=
  0#1 ++ field t.wgm 0 1 ++ t.com ++ field t.wgm 1 1 ++ t.cs

/-- TCCR1A: FOC1A and FOC1B read 0 (R170). -/
def Timer1.readTccrA (t : Timer1) : Byte := t.comA ++ t.comB ++ 0#2 ++ field t.wgm 0 2

/-- TCCR1B: bit 5 reads 0 (R172). -/
def Timer1.readTccrB (t : Timer1) : Byte :=
  BitVec.ofBool t.icnc ++ BitVec.ofBool t.ices ++ 0#1 ++ field t.wgm 2 2 ++ t.cs

/-- ASSR: only AS2 can read other than 0 (R166). -/
def State.readAssr (s : State) : Byte := 0#4 ++ BitVec.ofBool s.as2 ++ 0#3

/-- SFIOR: PSR2 and PSR10 read 0 (R210). -/
def State.readSfior (s : State) : Byte :=
  s.adts ++ 0#1 ++ BitVec.ofBool s.acme ++ BitVec.ofBool s.pud ++ 0#2

/-- The byte a bus read of a register returns (R152 to R210). -/
def State.readValue (s : State) : Reg → Byte
  | .tccr0 => s.t0.readTccr
  | .tcnt0 => s.t0.tcnt
  | .ocr0 => s.t0.ocrBuf
  | .tccr2 => s.t2.readTccr
  | .tcnt2 => s.t2.tcnt
  | .ocr2 => s.t2.ocrBuf
  | .assr => s.readAssr
  | .tccr1a => s.t1.readTccrA
  | .tccr1b => s.t1.readTccrB
  | .tcnt1h => s.t1.temp
  | .tcnt1l => loByte s.t1.tcnt
  | .ocr1ah => hiByte s.t1.ocrABuf
  | .ocr1al => loByte s.t1.ocrABuf
  | .ocr1bh => hiByte s.t1.ocrBBuf
  | .ocr1bl => loByte s.t1.ocrBBuf
  | .icr1h => s.t1.temp
  | .icr1l => loByte s.t1.icr
  | .timsk => s.timsk
  | .tifr => s.tifr
  | .sfior => s.readSfior

/-- `S.TEMP1 <- v`. -/
def State.setTemp (s : State) (v : Byte) : State := { s with t1 := { s.t1 with temp := v } }

/-- The side effect of a read: TCNT1L and ICR1L load TEMP1, no other read changes state (R87, R182, R194). -/
def State.readEffect (s : State) : Reg → State
  | .tcnt1l => s.setTemp (hiByte s.t1.tcnt)
  | .icr1l => s.setTemp (hiByte s.t1.icr)
  | _ => s

/-- One BUSRD: the byte is returned to the CPU, then the postlude (R150). -/
def State.busRead (s : State) (r : Reg) : State :=
  { (s.readEffect r).postlude false with rdata := s.readValue r }

/-! ### Register writes -/

/-- ocr_write for an 8-bit timer (R174). -/
def Timer8.writeOcr (t : Timer8) (v : Byte) : Timer8 :=
  { t with ocrBuf := v, ocrAct := if (class8 t.wgm).unbuffered then v else t.ocrAct }

/-- mode_changed for an 8-bit timer (R175). -/
def Timer8.modeChanged (t : Timer8) : Timer8 :=
  if (class8 t.wgm).unbuffered then { t with ocrAct := t.ocrBuf } else t

/-- force(n, A) for an 8-bit timer (R176, R266). -/
def Timer8.force (t : Timer8) : Timer8 := { t with oc := forced (class8 t.wgm) t.com t.oc }

/-- WR_TCCR0, WR_TCCR2: the fields, mode_changed, then the FOC strobe (R153, R161). -/
def Timer8.writeTccr (t : Timer8) (d : Byte) : Timer8 :=
  let t' := Timer8.modeChanged
    { t with wgm := field d 3 1 ++ field d 6 1, com := field d 4 2, cs := field d 0 3 }
  if d.getLsbD 7 then t'.force else t'

/-- WR_TCNT0, WR_TCNT2: the counter and the compare block (R155, R163). -/
def Timer8.writeTcnt (t : Timer8) (d : Byte) : Timer8 := { t with tcnt := d, blk := true }

/-- ocr_write for Timer1's units (R174). -/
def Timer1.writeOcrA (t : Timer1) (v : Half) : Timer1 :=
  { t with ocrABuf := v, ocrAAct := if (class1 t.wgm).unbuffered then v else t.ocrAAct }
def Timer1.writeOcrB (t : Timer1) (v : Half) : Timer1 :=
  { t with ocrBBuf := v, ocrBAct := if (class1 t.wgm).unbuffered then v else t.ocrBAct }

/-- mode_changed for Timer1 (R175). -/
def Timer1.modeChanged (t : Timer1) : Timer1 :=
  if (class1 t.wgm).unbuffered then { t with ocrAAct := t.ocrABuf, ocrBAct := t.ocrBBuf } else t

/-- force(1, A) and force(1, B) (R176, R266). -/
def Timer1.forceA (t : Timer1) : Timer1 := { t with ocA := forced (class1 t.wgm) t.comA t.ocA }
def Timer1.forceB (t : Timer1) : Timer1 := { t with ocB := forced (class1 t.wgm) t.comB t.ocB }

/-- WR_TCCR1A (R171). -/
def Timer1.writeTccrA (t : Timer1) (d : Byte) : Timer1 :=
  let t' := Timer1.modeChanged
    { t with comA := field d 6 2, comB := field d 4 2, wgm := field t.wgm 2 2 ++ field d 0 2 }
  let tA := if d.getLsbD 3 then t'.forceA else t'
  if d.getLsbD 2 then tA.forceB else tA

/-- WR_TCCR1B (R173): d[5] is ignored. -/
def Timer1.writeTccrB (t : Timer1) (d : Byte) : Timer1 :=
  Timer1.modeChanged
    { t with icnc := d.getLsbD 7, ices := d.getLsbD 6, wgm := field d 3 2 ++ field t.wgm 0 2, cs := field d 0 3 }

/-- WR_TCNT1L: the counter takes TEMP1:d, and the compare block (R181). -/
def Timer1.writeTcntL (t : Timer1) (d : Byte) : Timer1 := { t with tcnt := pair t.temp d, blk := true }

/-- WR_ICR1L: only in the modes where ICR1 is TOP (R193). -/
def Timer1.writeIcrL (t : Timer1) (d : Byte) : Timer1 :=
  if icrIsTop t.wgm then { t with icr := pair t.temp d } else t

/-- WR_SFIOR: the stored bits, and the prescaler resets (R211). -/
def State.writeSfior (s : State) (d : Byte) : State :=
  { s with
    adts := field d 5 3
    acme := d.getLsbD 3
    pud := d.getLsbD 2
    p01 := if d.getLsbD 0 then 0#10 else s.p01
    p2 := if d.getLsbD 1 then 0#10 else s.p2 }

/-- The effect of a bus write that is accepted (R153 to R211). -/
def State.writeEffect (s : State) (d : Byte) : Reg → State
  | .tccr0 => { s with t0 := s.t0.writeTccr d }
  | .tcnt0 => { s with t0 := s.t0.writeTcnt d }
  | .ocr0 => { s with t0 := s.t0.writeOcr d }
  | .tccr2 => { s with t2 := s.t2.writeTccr d }
  | .tcnt2 => { s with t2 := s.t2.writeTcnt d }
  | .ocr2 => { s with t2 := s.t2.writeOcr d }
  | .assr => { s with as2 := d.getLsbD 3 }
  | .tccr1a => { s with t1 := s.t1.writeTccrA d }
  | .tccr1b => { s with t1 := s.t1.writeTccrB d }
  | .tcnt1h => s.setTemp d
  | .tcnt1l => { s with t1 := s.t1.writeTcntL d }
  | .ocr1ah => s.setTemp d
  | .ocr1al => { s with t1 := s.t1.writeOcrA (pair s.t1.temp d) }
  | .ocr1bh => s.setTemp d
  | .ocr1bl => { s with t1 := s.t1.writeOcrB (pair s.t1.temp d) }
  | .icr1h => s.setTemp d
  | .icr1l => { s with t1 := s.t1.writeIcrL d }
  | .timsk => { s with timsk := d }
  | .tifr => { s with tifr := clearWritten d s.tifr }
  | .sfior => s.writeSfior d

/-- One BUSWR: the write, then the postlude (R151); a write of ASSR with bit 3 set is refused (R167, R404). -/
def State.busWrite (s : State) (r : Reg) (d : Byte) : Result :=
  if r == .assr && d.getLsbD 3 then .refused (.asyncT2 d)
  else .next ((s.writeEffect d r).postlude false)

/-! ### Interrupt control -/

/-- SEI (R335) and CLI (R337), each with its postlude. -/
def State.doSei (s : State) : State := { s with gie := true }.postlude true
def State.doCli (s : State) : State := { s with gie := false }.postlude false

/-- `ISR src`, the handler at the vector of src: DISPATCH src, then RETI (R341, R342, R344). -/
def dispatchMicros (src : Source) : List Micro :=
  [.cli, .invoke src, .wr .tifr (onehot (sourceBit src)), .sei]
def isrMicros (src : Source) : List Micro := dispatchMicros src ++ [.reti]

/-- TAKING AN INTERRUPT (R333, R423): the accepted flag and GIE are cleared, the source is pushed on S.isr (the CPU's
saved return point: the actions in progress stay behind the handler's), its vector is presented, and the CPU actions
that follow are its handler (R344; log 12). The shadow is not changed (R339). -/
def State.takeInterrupt (s : State) (src : Source) : State :=
  { s with
    tifr := clearFlag src s.tifr
    gie := false
    isr := src :: s.isr
    vector := vectorOf src }.push (isrMicros src)

/-- ACCEPT of the source of highest priority, where it is enabled (R332, R333); elsewhere no run has this step
(log 9). -/
def State.doAccept (s : State) : Result :=
  match s.acceptEnabled, s.selectSource with
  | true, some src => .next (s.takeInterrupt src)
  | _, _ => .refused .acceptNotEnabled

/-- RETURN FROM AN INTERRUPT (R334, R424): pop S.isr, set GIE; the CPU goes on with the actions behind the handler's.
With S.isr empty, RETI_UNMATCHED (R412). -/
def State.doReti (s : State) : Result :=
  match s.isr with
  | [] => .refused .retiUnmatched
  | _ :: rest => .next ({ s with isr := rest, gie := true }.postlude true)

/-! ### Callback slots -/

/-- SLOT_STORE: the null id 0 is rejected silently (R336). -/
def State.doSlotStore (s : State) (src : Source) (cbid : Half) : State :=
  State.postlude
    (if cbid = 0#16 then s else { s with slots := setSlot s.slots src (some cbid) }) false

/-! ### Expansions of the driver pseudo-operations: the CPU actions of each, with what they compute at their
start (42, 43, 44, 45) -/

/-- INIT on an 8-bit timer (R301); a field value out of its enumeration skips that field. -/
def initMicros8 (n : Timer8Id) (count : Byte) (mode clksel comact : BitVec 4) : List Micro :=
  [.wr (tcntOf n) count] ++
  (if clksel.toNat ≤ 7 then [.rmw (tccrOf n) 0xF8#8 (clksel.setWidth 8)] else []) ++
  (if mode.toNat ≤ 3 then
    [.rmw (tccrOf n) 0xB7#8 (0#1 ++ field mode 0 1 ++ 0#2 ++ field mode 1 1 ++ 0#3)] else []) ++
  (if comact.toNat ≤ 3 then [.initCom n (field comact 0 2)] else [])

/-- INIT on Timer1 (R302); mode 13 is an invalid enumeration value. -/
def initMicros1 (u : CmpUnit) (count : Half) (mode clksel comact : BitVec 4) : List Micro :=
  [.wr .tcnt1h (hiByte count), .wr .tcnt1l (loByte count)] ++
  (if clksel.toNat ≤ 7 then [.rmw .tccr1b 0xF8#8 (clksel.setWidth 8)] else []) ++
  (if mode ≠ 13#4 then
    [.rmw .tccr1a 0xFC#8 (0#6 ++ field mode 0 2), .rmw .tccr1b 0xE7#8 (0#3 ++ field mode 2 2 ++ 0#3)] else []) ++
  (if comact.toNat ≤ 3 then [.initCom1 u (field comact 0 2)] else [])

/-- INIT (R301, R302). -/
def initMicros (t : TimerId) (u : CmpUnit) (count : Half) (mode clksel comact : BitVec 4) : List Micro :=
  match t with
  | .t0 => initMicros8 .t0 (loByte count) mode clksel comact
  | .t1 => initMicros1 u count mode clksel comact
  | .t2 => initMicros8 .t2 (loByte count) mode clksel comact

/-- DISABLE (R304). -/
def disableMicros8 (n : Timer8Id) : List Micro :=
  [.rmw (tccrOf n) 0xF8#8 0#8, .rmw (tccrOf n) 0xCF#8 0#8]

def disableMicros : TimerId → List Micro
  | .t0 => disableMicros8 .t0
  | .t1 => [.rmw .tccr1b 0xF8#8 0#8, .rmw .tccr1a 0x0F#8 0#8]
  | .t2 => disableMicros8 .t2

/-- SET_COMPARE (R305): high byte first on Timer1. -/
def setCompareMicros (t : TimerId) (u : CmpUnit) (value : Half) : List Micro :=
  match t with
  | .t0 => [.wr .ocr0 (loByte value)]
  | .t1 => [.wr (ocr1HighOf u) (hiByte value), .wr (ocr1LowOf u) (loByte value)]
  | .t2 => [.wr .ocr2 (loByte value)]

/-- SET_TIMER (R306). -/
def setTimerMicros (t : TimerId) (value : Half) : List Micro :=
  match t with
  | .t0 => [.wr .tcnt0 (loByte value)]
  | .t1 => [.setTimer1 value]
  | .t2 => [.wr .tcnt2 (loByte value)]

/-- GET_TIMER (R307). -/
def getTimerMicros : TimerId → List Micro
  | .t0 => [.getTimer8 .t0]
  | .t1 => [.getTimer1]
  | .t2 => [.getTimer8 .t2]

/-- The poll loop of DELAY_MS with `left` overflows to count (R321 step 4). -/
def pollMicros (n : Timer8Id) (left : Nat) : List Micro :=
  match left with
  | 0 => []
  | k + 1 => [.poll n (k + 1)]

/-- DELAY_MS on an 8-bit timer at a clock of `fCpu` Hz (R321). -/
def delayMicros (fCpu : Nat) (n : Timer8Id) (period : BitVec 32) : List Micro :=
  initMicros8 n 0#8 0#4 1#4 0#4 ++ pollMicros n (delayCount fCpu period.toNat) ++ disableMicros8 n

/-- ENABLE_*_INT of a source (R345, R346, R347). -/
def enableMicros (src : Source) (cbid : Half) : List Micro :=
  [.cli, .slotStore src cbid] ++
  (if cbid ≠ 0#16 ∨ Config.nullEnableSetsMask = true then
    [.rmw .timsk 0xFF#8 (onehot (sourceBit src))] else []) ++
  [.sei]

/-- DISABLE_*_INT of a source (R348, R349, R350). -/
def disableIntMicros (src : Source) : List Micro :=
  [.rmw .timsk (~~~ onehot (sourceBit src)) 0#8]

/-- PWM_INIT at a clock of `fCpu` Hz (R372): fast PWM, clear on compare. -/
def pwmInitMicros (fCpu : Nat) (ch : Channel) (freq : BitVec 32) : List Micro :=
  if freq = 0#32 then [.refuse (.pwmFreqZero ch)]
  else
    let t := channelTimer ch
    initMicros t (channelUnit ch) 0#16 (match t with | .t1 => Config.t1PwmMode | _ => 3#4)
      (divisorCode t (pwmDivisor fCpu freq.toNat)) 2#4

/-- PWM_WRITE (R373). -/
def pwmWriteMicros (ch : Channel) (duty : Byte) : List Micro :=
  if 100 < duty.toNat then [.refuse (.pwmDutyRange ch duty)]
  else setCompareMicros (channelTimer ch) (channelUnit ch) (pwmCompare duty)

/-- The CPU actions of an action of a callback body (R338): a bus or core action is itself one CPU action, a driver
pseudo-operation its expansion. A body holds no CLK, PIN, ACCEPT or RETI (R6, R338). -/
def expand : Instr → List Micro
  | .rdTccr0 => [.rd .tccr0]
  | .rdTcnt0 => [.rd .tcnt0]
  | .rdOcr0 => [.rd .ocr0]
  | .rdTccr2 => [.rd .tccr2]
  | .rdTcnt2 => [.rd .tcnt2]
  | .rdOcr2 => [.rd .ocr2]
  | .rdAssr => [.rd .assr]
  | .rdTccr1a => [.rd .tccr1a]
  | .rdTccr1b => [.rd .tccr1b]
  | .rdTcnt1h => [.rd .tcnt1h]
  | .rdTcnt1l => [.rd .tcnt1l]
  | .rdOcr1ah => [.rd .ocr1ah]
  | .rdOcr1al => [.rd .ocr1al]
  | .rdOcr1bh => [.rd .ocr1bh]
  | .rdOcr1bl => [.rd .ocr1bl]
  | .rdIcr1h => [.rd .icr1h]
  | .rdIcr1l => [.rd .icr1l]
  | .rdTimsk => [.rd .timsk]
  | .rdTifr => [.rd .tifr]
  | .rdSfior => [.rd .sfior]
  | .wrTccr0 d => [.wr .tccr0 d]
  | .wrTcnt0 d => [.wr .tcnt0 d]
  | .wrOcr0 d => [.wr .ocr0 d]
  | .wrTccr2 d => [.wr .tccr2 d]
  | .wrTcnt2 d => [.wr .tcnt2 d]
  | .wrOcr2 d => [.wr .ocr2 d]
  | .wrAssr d => [.wr .assr d]
  | .wrTccr1a d => [.wr .tccr1a d]
  | .wrTccr1b d => [.wr .tccr1b d]
  | .wrTcnt1h d => [.wr .tcnt1h d]
  | .wrTcnt1l d => [.wr .tcnt1l d]
  | .wrOcr1ah d => [.wr .ocr1ah d]
  | .wrOcr1al d => [.wr .ocr1al d]
  | .wrOcr1bh d => [.wr .ocr1bh d]
  | .wrOcr1bl d => [.wr .ocr1bl d]
  | .wrIcr1h d => [.wr .icr1h d]
  | .wrIcr1l d => [.wr .icr1l d]
  | .wrTimsk d => [.wr .timsk d]
  | .wrTifr d => [.wr .tifr d]
  | .wrSfior d => [.wr .sfior d]
  | .clk => []
  | .pinT0 _ => []
  | .pinT1 _ => []
  | .pinIcp1 _ => []
  | .sei => [.sei]
  | .cli => [.cli]
  | .accept => []
  | .reti => []
  | .slotStore src cbid => [.slotStore src cbid]
  | .invoke src => [.invoke src]
  | .init t u count mode clksel comact => initMicros t u count mode clksel comact
  | .disable t => disableMicros t
  | .setCompare t u value => setCompareMicros t u value
  | .setTimer t value => setTimerMicros t value
  | .getTimer t => getTimerMicros t
  | .delayMs .t0 period => delayMicros Config.fCpu .t0 period
  | .delayMs .t1 _ => []
  | .delayMs .t2 period => delayMicros Config.fCpu .t2 period
  | .enableOvfInt t cbid => enableMicros (ovfSource t) cbid
  | .enableCmpInt t u cbid => enableMicros (cmpSource t u) cbid
  | .enableCaptInt cbid => enableMicros .t1Capt cbid
  | .disableOvfInt t => disableIntMicros (ovfSource t)
  | .disableCmpInt t u => disableIntMicros (cmpSource t u)
  | .disableCaptInt => disableIntMicros .t1Capt
  | .dispatch src => dispatchMicros src
  | .pwmInit ch freq => pwmInitMicros Config.fCpu ch freq
  | .pwmWrite ch duty => pwmWriteMicros ch duty

/-- The CPU actions of CallbackBody(cb) (R338). -/
def bodyMicros (cb : Half) : List Micro := (Config.callbackBody cb).flatMap expand

/-- INVOKE: an empty slot is the fault CALLBACK_EMPTY; else the next CPU actions are the callback's body, and the
INVOKE completes before the first of them (R338, R339, R405). -/
def State.doInvoke (s : State) (src : Source) : Result :=
  match slotOf s.slots src with
  | none => .fault (.callbackEmpty src)
  | some cb => .next ((s.postlude false).push (bodyMicros cb))

/-! ### The next CPU action of an operation in progress -/

/-- The write that ends INIT step 4, if valid_com allows the action (R301). -/
def initComWrite (n : Timer8Id) (act : BitVec 2) (v : Byte) : List Micro :=
  if validCom8 (field v 3 1 ++ field v 6 1) act then
    [.wr (tccrOf n) ((v &&& 0xCF#8) ||| (act.setWidth 8 <<< 4))] else []

/-- The same on Timer1, with w read from TCCR1B and v from TCCR1A (R302). -/
def initCom1Write (u : CmpUnit) (act : BitVec 2) (w v : Byte) : List Micro :=
  if validCom1 (field w 3 2 ++ field v 0 2) act then
    [.wr .tccr1a ((v &&& ~~~ (3#8 <<< comShift u)) ||| (act.setWidth 8 <<< comShift u))] else []

/-- The flag DELAY_MS polls: TOV0 or TOV2 (R321). -/
def delaySource (n : Timer8Id) : Source := ovfSource (timerOf8 n)

/-- What follows a poll that read v: the one-hot clear and the rest of the loop, or another poll (R321 step 4). -/
def afterPoll (n : Timer8Id) (left : Nat) (v : Byte) : List Micro :=
  if v.getLsbD (sourceBit (delaySource n)) then
    .wr .tifr (onehot (sourceBit (delaySource n))) :: pollMicros n (left - 1)
  else [.poll n left]

/-- One CPU action: what it does, and the actions it puts in front of those that remain. -/
def microStep (m : Micro) (s : State) : Result :=
  match m with
  | .rd r => .next (s.busRead r)
  | .wr r d => s.busWrite r d
  | .sei => .next s.doSei
  | .cli => .next s.doCli
  | .reti => s.doReti
  | .slotStore src cbid => .next (s.doSlotStore src cbid)
  | .invoke src => s.doInvoke src
  | .rmw r keep set => .next ((s.busRead r).push [.wr r ((s.readValue r &&& keep) ||| set)])
  | .initCom n act => .next ((s.busRead (tccrOf n)).push (initComWrite n act (s.readValue (tccrOf n))))
  | .initCom1 u act => .next ((s.busRead .tccr1b).push [.initCom1A u act (s.readValue .tccr1b)])
  | .initCom1A u act w =>
    .next ((s.busRead .tccr1a).push (initCom1Write u act w (s.readValue .tccr1a)))
  | .setTimer1 value =>
    .next (s.doCli.push
      ([.wr .tcnt1h (hiByte value), .wr .tcnt1l (loByte value)] ++ if s.gie then [.sei] else []))
  | .getTimer8 n => .next { s.busRead (tcntOf n) with result := (s.readValue (tcntOf n)).setWidth 16 }
  | .getTimer1 => .next (s.doCli.push [.getTimer1L s.gie])
  | .getTimer1L g => .next ((s.busRead .tcnt1l).push [.getTimer1H g (s.readValue .tcnt1l)])
  | .getTimer1H g lo =>
    let v := pair (s.readValue .tcnt1h) lo
    if g then .next ((s.busRead .tcnt1h).push [.getTimer1Ret v])
    else .next { s.busRead .tcnt1h with result := v }
  | .getTimer1Ret v => .next { s.doSei with result := v }
  | .poll n left => .next ((s.busRead .tifr).push (afterPoll n left (s.readValue .tifr)))
  | .refuse r => .refused r

/-- A driver pseudo-operation begins: its first CPU action is done in this step, the others wait (R13; log 3). A term
that no legal word decodes to is refused (log 15). -/
def startOperation (legal : Bool) (ms : List Micro) (s : State) : Result :=
  match legal, ms with
  | true, m :: rest => microStep m (s.push rest)
  | _, _ => .refused .illFormed

/-! ### Recorded stops -/

/-- The refusals that are codes of R401. -/
def Refusal.isCode : Refusal → Bool
  | .decodeInvalid _ | .asyncT2 _ | .clockRefused _ | .pwmFreqZero _ | .pwmDutyRange _ _ | .retiUnmatched => true
  | _ => false

/-- The state a step leaves behind: after a stop, the state the action started in with the code recorded in S.faults
or S.refusals and no other effect (R65, R402; log 11). -/
def recordStop (o : Result) (s : State) : State :=
  match o with
  | .next t => t
  | .fault (.callbackEmpty src) => { s with faults := s.faults.insert (.callbackEmpty src) }
  | .fault .runFaulted => s
  | .refused r => if r.isCode then { s with refusals := s.refusals.insert r } else s

end Sys2Proof.Machine
end

