-- ==== Sys2Proof/Machine/BusRead.lean ====
section
/-! DEFINITION. The meanings of the BUSRD actions: one bus read of one register (spec 40_register_access.md). Each
returns its byte to the CPU in `rdata` and ends with the postlude (R150). -/

namespace Sys2Proof.Machine

/-- RD_TCCR0 (R152): the mode, action and clock fields, FOC0 as 0. -/
def execRdTccr0 (s : State) : Result := .next (s.busRead .tccr0)

/-- RD_TCNT0 (R154): the counter. -/
def execRdTcnt0 (s : State) : Result := .next (s.busRead .tcnt0)

/-- RD_OCR0 (R156): the buffer. -/
def execRdOcr0 (s : State) : Result := .next (s.busRead .ocr0)

/-- RD_TCCR2 (R160): the mode, action and clock fields, FOC2 as 0. -/
def execRdTccr2 (s : State) : Result := .next (s.busRead .tccr2)

/-- RD_TCNT2 (R162): the counter. -/
def execRdTcnt2 (s : State) : Result := .next (s.busRead .tcnt2)

/-- RD_OCR2 (R164): the buffer. -/
def execRdOcr2 (s : State) : Result := .next (s.busRead .ocr2)

/-- RD_ASSR (R166): AS2, every other bit 0. -/
def execRdAssr (s : State) : Result := .next (s.busRead .assr)

/-- RD_TCCR1A (R170): COM1A, COM1B and WGM11:10. -/
def execRdTccr1a (s : State) : Result := .next (s.busRead .tccr1a)

/-- RD_TCCR1B (R172): ICNC1, ICES1, WGM13:12 and CS1. -/
def execRdTccr1b (s : State) : Result := .next (s.busRead .tccr1b)

/-- RD_TCNT1H (R183): TEMP1. -/
def execRdTcnt1h (s : State) : Result := .next (s.busRead .tcnt1h)

/-- RD_TCNT1L (R182): the low byte of the counter; TEMP1 takes the high byte. -/
def execRdTcnt1l (s : State) : Result := .next (s.busRead .tcnt1l)

/-- RD_OCR1AH (R187): the high byte of the buffer. -/
def execRdOcr1ah (s : State) : Result := .next (s.busRead .ocr1ah)

/-- RD_OCR1AL (R186): the low byte of the buffer; TEMP1 is not changed. -/
def execRdOcr1al (s : State) : Result := .next (s.busRead .ocr1al)

/-- RD_OCR1BH (R191): the high byte of the buffer. -/
def execRdOcr1bh (s : State) : Result := .next (s.busRead .ocr1bh)

/-- RD_OCR1BL (R190): the low byte of the buffer; TEMP1 is not changed. -/
def execRdOcr1bl (s : State) : Result := .next (s.busRead .ocr1bl)

/-- RD_ICR1H (R195): TEMP1. -/
def execRdIcr1h (s : State) : Result := .next (s.busRead .icr1h)

/-- RD_ICR1L (R194): the low byte of ICR1; TEMP1 takes the high byte. -/
def execRdIcr1l (s : State) : Result := .next (s.busRead .icr1l)

/-- RD_TIMSK (R200): the mask. -/
def execRdTimsk (s : State) : Result := .next (s.busRead .timsk)

/-- RD_TIFR (R206): the flags, none cleared. -/
def execRdTifr (s : State) : Result := .next (s.busRead .tifr)

/-- RD_SFIOR (R210): the stored bits, PSR2 and PSR10 as 0. -/
def execRdSfior (s : State) : Result := .next (s.busRead .sfior)

end Sys2Proof.Machine
end

