-- ==== Sys2Proof/Machine/BusWrite.lean ====
section
/-! DEFINITION. The meanings of the BUSWR actions: one bus write of one register (spec 40_register_access.md). Each
ends with the postlude (R151). -/

namespace Sys2Proof.Machine

/-- WR_TCCR0 (R153): mode, action, clock, mode_changed, FOC0. -/
def execWrTccr0 (d : Byte) (s : State) : Result := s.busWrite .tccr0 d

/-- WR_TCNT0 (R155): the counter and the compare block. -/
def execWrTcnt0 (d : Byte) (s : State) : Result := s.busWrite .tcnt0 d

/-- WR_OCR0 (R157): ocr_write. -/
def execWrOcr0 (d : Byte) (s : State) : Result := s.busWrite .ocr0 d

/-- WR_TCCR2 (R161): mode, action, clock, mode_changed, FOC2. -/
def execWrTccr2 (d : Byte) (s : State) : Result := s.busWrite .tccr2 d

/-- WR_TCNT2 (R163): the counter and the compare block. -/
def execWrTcnt2 (d : Byte) (s : State) : Result := s.busWrite .tcnt2 d

/-- WR_OCR2 (R165): ocr_write. -/
def execWrOcr2 (d : Byte) (s : State) : Result := s.busWrite .ocr2 d

/-- WR_ASSR (R167): AS2; a 1 is refused (R404). -/
def execWrAssr (d : Byte) (s : State) : Result := s.busWrite .assr d

/-- WR_TCCR1A (R171): COM1A, COM1B, WGM11:10, mode_changed, FOC1A, FOC1B. -/
def execWrTccr1a (d : Byte) (s : State) : Result := s.busWrite .tccr1a d

/-- WR_TCCR1B (R173): ICNC1, ICES1, WGM13:12, CS1, mode_changed. -/
def execWrTccr1b (d : Byte) (s : State) : Result := s.busWrite .tccr1b d

/-- WR_TCNT1H (R180): TEMP1. -/
def execWrTcnt1h (d : Byte) (s : State) : Result := s.busWrite .tcnt1h d

/-- WR_TCNT1L (R181): the counter takes TEMP1:d, and the compare block. -/
def execWrTcnt1l (d : Byte) (s : State) : Result := s.busWrite .tcnt1l d

/-- WR_OCR1AH (R184): TEMP1. -/
def execWrOcr1ah (d : Byte) (s : State) : Result := s.busWrite .ocr1ah d

/-- WR_OCR1AL (R185): ocr_write of TEMP1:d. -/
def execWrOcr1al (d : Byte) (s : State) : Result := s.busWrite .ocr1al d

/-- WR_OCR1BH (R188): TEMP1. -/
def execWrOcr1bh (d : Byte) (s : State) : Result := s.busWrite .ocr1bh d

/-- WR_OCR1BL (R189): ocr_write of TEMP1:d. -/
def execWrOcr1bl (d : Byte) (s : State) : Result := s.busWrite .ocr1bl d

/-- WR_ICR1H (R192): TEMP1. -/
def execWrIcr1h (d : Byte) (s : State) : Result := s.busWrite .icr1h d

/-- WR_ICR1L (R193): ICR1 takes TEMP1:d in the modes where it is TOP. -/
def execWrIcr1l (d : Byte) (s : State) : Result := s.busWrite .icr1l d

/-- WR_TIMSK (R201): the mask. -/
def execWrTimsk (d : Byte) (s : State) : Result := s.busWrite .timsk d

/-- WR_TIFR (R207): write-one-to-clear. -/
def execWrTifr (d : Byte) (s : State) : Result := s.busWrite .tifr d

/-- WR_SFIOR (R211): the stored bits and the prescaler resets. -/
def execWrSfior (d : Byte) (s : State) : Result := s.busWrite .sfior d

end Sys2Proof.Machine
end

