-- ==== Sys2Proof/Machine/Clock.lean ====
section
/-! DEFINITION. The meanings of the EVENT actions: the clock and the input pins (spec 41_counter_unit.md). They are
not CPU actions and leave the shadow alone (R339). -/

namespace Sys2Proof.Machine

/-- CLK (R230): sampling and capture, prescalers, then the timers that tick; refused as a whole, with every code that
applies, if a timer step is refused (R249, R402). -/
def execClk (s : State) : Result :=
  match clockRefusals s with
  | [] => .next (clocked s)
  | c :: cs => .refused (.clockRefused (c :: cs))

/-- PIN_T0 (R235): the level counts only when the next CLK samples it. -/
def execPinT0 (level : Bool) (s : State) : Result := .next { s with t0Pin := level }

/-- PIN_T1 (R236). -/
def execPinT1 (level : Bool) (s : State) : Result := .next { s with t1Pin := level }

/-- PIN_ICP1 (R237). -/
def execPinIcp1 (level : Bool) (s : State) : Result := .next { s with icpPin := level }

end Sys2Proof.Machine
end

