-- ==== Sys2Proof/Machine/CpuControl.lean ====
section
/-! DEFINITION. The meanings of the CORE actions: interrupt enable, acceptance and return
(spec 44_interrupt_dispatch.md section 1). -/

namespace Sys2Proof.Machine

/-- SEI (R335). -/
def execSei (s : State) : Result := .next s.doSei

/-- CLI (R337). -/
def execCli (s : State) : Result := .next s.doCli

/-- ACCEPT (R332, R333): the arbiter's step. -/
def execAccept (s : State) : Result := s.doAccept

/-- RETI (R334). -/
def execReti (s : State) : Result := s.doReti

end Sys2Proof.Machine
end

