-- ==== Sys2Proof/Machine/Driver.lean ====
section
/-! DEFINITION. The meanings of the DRIVER actions. Each begins its expansion: the first CPU action is this step's,
the rest are in progress (spec R13, 42, 43, 44, 45; log 3). -/

namespace Sys2Proof.Machine

/-- INIT (R301, R302). -/
def execInit (t : TimerId) (u : CmpUnit) (count : Half) (mode clksel comact : BitVec 4) (s : State) : Result :=
  startOperation (unitOk t u && valueOk t count) (initMicros t u count mode clksel comact) s

/-- DISABLE (R304). -/
def execDisable (t : TimerId) (s : State) : Result := startOperation true (disableMicros t) s

/-- SET_COMPARE (R305). -/
def execSetCompare (t : TimerId) (u : CmpUnit) (value : Half) (s : State) : Result :=
  startOperation (unitOk t u && valueOk t value) (setCompareMicros t u value) s

/-- SET_TIMER (R306). -/
def execSetTimer (t : TimerId) (value : Half) (s : State) : Result :=
  startOperation (valueOk t value) (setTimerMicros t value) s

/-- GET_TIMER (R307). -/
def execGetTimer (t : TimerId) (s : State) : Result := startOperation true (getTimerMicros t) s

/-- DELAY_MS (R321) on Timer0 or Timer2; no word encodes it on Timer1 (R117). -/
def execDelayMs (t : TimerId) (period : BitVec 32) (s : State) : Result :=
  match t with
  | .t0 => startOperation true (delayMicros Config.fCpu .t0 period) s
  | .t1 => startOperation false [] s
  | .t2 => startOperation true (delayMicros Config.fCpu .t2 period) s

/-- ENABLE_OVF_INT (R345). -/
def execEnableOvfInt (t : TimerId) (cbid : Half) (s : State) : Result :=
  startOperation true (enableMicros (ovfSource t) cbid) s

/-- ENABLE_CMP_INT (R346). -/
def execEnableCmpInt (t : TimerId) (u : CmpUnit) (cbid : Half) (s : State) : Result :=
  startOperation (unitOk t u) (enableMicros (cmpSource t u) cbid) s

/-- ENABLE_CAPT_INT (R347). -/
def execEnableCaptInt (cbid : Half) (s : State) : Result :=
  startOperation true (enableMicros .t1Capt cbid) s

/-- DISABLE_OVF_INT (R348). -/
def execDisableOvfInt (t : TimerId) (s : State) : Result :=
  startOperation true (disableIntMicros (ovfSource t)) s

/-- DISABLE_CMP_INT (R349). -/
def execDisableCmpInt (t : TimerId) (u : CmpUnit) (s : State) : Result :=
  startOperation (unitOk t u) (disableIntMicros (cmpSource t u)) s

/-- DISABLE_CAPT_INT (R350). -/
def execDisableCaptInt (s : State) : Result := startOperation true (disableIntMicros .t1Capt) s

/-- DISPATCH (R341). -/
def execDispatch (src : Source) (s : State) : Result := startOperation true (dispatchMicros src) s

/-- PWM_INIT (R372); FREQ = 0 is refused (R410). -/
def execPwmInit (ch : Channel) (freq : BitVec 32) (s : State) : Result :=
  startOperation true (pwmInitMicros Config.fCpu ch freq) s

/-- PWM_WRITE (R373); a duty above 100 is refused (R411). -/
def execPwmWrite (ch : Channel) (duty : Byte) (s : State) : Result :=
  startOperation true (pwmWriteMicros ch duty) s

end Sys2Proof.Machine
end

