-- ==== Sys2Proof/Machine/Slot.lean ====
section
/-! DEFINITION. The meanings of the SLOT actions (spec 44_interrupt_dispatch.md section 2). -/

namespace Sys2Proof.Machine

/-- SLOT_STORE (R336). -/
def execSlotStore (src : Source) (cbid : Half) (s : State) : Result := .next (s.doSlotStore src cbid)

/-- INVOKE (R338). -/
def execInvoke (src : Source) (s : State) : Result := s.doInvoke src

end Sys2Proof.Machine
end

