-- ==== Sys2Proof/Machine/Dispatch.lean ====
section
/-! DEFINITION. `exec`: one arm per action, one direct call of its meaning. -/

namespace Sys2Proof.Machine

def exec (i : Instr) (s : State) : Host.Outcome State Fault Refusal :=
  match i with
  | .rdTccr0 => Sys2Proof.Machine.execRdTccr0 s
  | .rdTcnt0 => Sys2Proof.Machine.execRdTcnt0 s
  | .rdOcr0 => Sys2Proof.Machine.execRdOcr0 s
  | .rdTccr2 => Sys2Proof.Machine.execRdTccr2 s
  | .rdTcnt2 => Sys2Proof.Machine.execRdTcnt2 s
  | .rdOcr2 => Sys2Proof.Machine.execRdOcr2 s
  | .rdAssr => Sys2Proof.Machine.execRdAssr s
  | .rdTccr1a => Sys2Proof.Machine.execRdTccr1a s
  | .rdTccr1b => Sys2Proof.Machine.execRdTccr1b s
  | .rdTcnt1h => Sys2Proof.Machine.execRdTcnt1h s
  | .rdTcnt1l => Sys2Proof.Machine.execRdTcnt1l s
  | .rdOcr1ah => Sys2Proof.Machine.execRdOcr1ah s
  | .rdOcr1al => Sys2Proof.Machine.execRdOcr1al s
  | .rdOcr1bh => Sys2Proof.Machine.execRdOcr1bh s
  | .rdOcr1bl => Sys2Proof.Machine.execRdOcr1bl s
  | .rdIcr1h => Sys2Proof.Machine.execRdIcr1h s
  | .rdIcr1l => Sys2Proof.Machine.execRdIcr1l s
  | .rdTimsk => Sys2Proof.Machine.execRdTimsk s
  | .rdTifr => Sys2Proof.Machine.execRdTifr s
  | .rdSfior => Sys2Proof.Machine.execRdSfior s
  | .wrTccr0 d => Sys2Proof.Machine.execWrTccr0 d s
  | .wrTcnt0 d => Sys2Proof.Machine.execWrTcnt0 d s
  | .wrOcr0 d => Sys2Proof.Machine.execWrOcr0 d s
  | .wrTccr2 d => Sys2Proof.Machine.execWrTccr2 d s
  | .wrTcnt2 d => Sys2Proof.Machine.execWrTcnt2 d s
  | .wrOcr2 d => Sys2Proof.Machine.execWrOcr2 d s
  | .wrAssr d => Sys2Proof.Machine.execWrAssr d s
  | .wrTccr1a d => Sys2Proof.Machine.execWrTccr1a d s
  | .wrTccr1b d => Sys2Proof.Machine.execWrTccr1b d s
  | .wrTcnt1h d => Sys2Proof.Machine.execWrTcnt1h d s
  | .wrTcnt1l d => Sys2Proof.Machine.execWrTcnt1l d s
  | .wrOcr1ah d => Sys2Proof.Machine.execWrOcr1ah d s
  | .wrOcr1al d => Sys2Proof.Machine.execWrOcr1al d s
  | .wrOcr1bh d => Sys2Proof.Machine.execWrOcr1bh d s
  | .wrOcr1bl d => Sys2Proof.Machine.execWrOcr1bl d s
  | .wrIcr1h d => Sys2Proof.Machine.execWrIcr1h d s
  | .wrIcr1l d => Sys2Proof.Machine.execWrIcr1l d s
  | .wrTimsk d => Sys2Proof.Machine.execWrTimsk d s
  | .wrTifr d => Sys2Proof.Machine.execWrTifr d s
  | .wrSfior d => Sys2Proof.Machine.execWrSfior d s
  | .clk => Sys2Proof.Machine.execClk s
  | .pinT0 level => Sys2Proof.Machine.execPinT0 level s
  | .pinT1 level => Sys2Proof.Machine.execPinT1 level s
  | .pinIcp1 level => Sys2Proof.Machine.execPinIcp1 level s
  | .sei => Sys2Proof.Machine.execSei s
  | .cli => Sys2Proof.Machine.execCli s
  | .accept => Sys2Proof.Machine.execAccept s
  | .reti => Sys2Proof.Machine.execReti s
  | .slotStore src cbid => Sys2Proof.Machine.execSlotStore src cbid s
  | .invoke src => Sys2Proof.Machine.execInvoke src s
  | .init t u count mode clksel comact => Sys2Proof.Machine.execInit t u count mode clksel comact s
  | .disable t => Sys2Proof.Machine.execDisable t s
  | .setCompare t u value => Sys2Proof.Machine.execSetCompare t u value s
  | .setTimer t value => Sys2Proof.Machine.execSetTimer t value s
  | .getTimer t => Sys2Proof.Machine.execGetTimer t s
  | .delayMs t period => Sys2Proof.Machine.execDelayMs t period s
  | .enableOvfInt t cbid => Sys2Proof.Machine.execEnableOvfInt t cbid s
  | .enableCmpInt t u cbid => Sys2Proof.Machine.execEnableCmpInt t u cbid s
  | .enableCaptInt cbid => Sys2Proof.Machine.execEnableCaptInt cbid s
  | .disableOvfInt t => Sys2Proof.Machine.execDisableOvfInt t s
  | .disableCmpInt t u => Sys2Proof.Machine.execDisableCmpInt t u s
  | .disableCaptInt => Sys2Proof.Machine.execDisableCaptInt s
  | .dispatch src => Sys2Proof.Machine.execDispatch src s
  | .pwmInit ch freq => Sys2Proof.Machine.execPwmInit ch freq s
  | .pwmWrite ch duty => Sys2Proof.Machine.execPwmWrite ch duty s

end Sys2Proof.Machine
end

