-- ==== Sys2Proof/Machine/Fetch.lean ====
section
/-! DEFINITION. Scheduling: which of the CPU, the arbiter and the environment acts in the next step
(spec R6, R7, R13, R332; log 2). `step` only calls what stands here. -/

namespace Sys2Proof.Machine

/-- The next CPU-side step: ACCEPT where it is enabled (R7 a, R332), else the next action of the operations in
progress; a CPU with nothing in progress does nothing in its turn (log 10). -/
def cpuTurn (s : State) : Result :=
  if s.acceptEnabled then exec .accept s
  else match s.pending with
    | [] => .next s
    | m :: ms => microStep m { s with pending := ms }

/-- Whether the action issued next runs in this step. A clock or pin action runs unless it waits for the operation in
progress (a plain `word` waits, one that comes `during` the operation does not: DESIGN CHOICE, log 2); ACCEPT runs where
it is enabled; a CPU action runs when no ACCEPT comes first (R7 a) and no operation is in progress (program order, R6).
With nothing in progress an ACCEPT that is not enabled is refused by its meaning. -/
def State.runsNow (s : State) (i : Instr) (during : Bool) : Bool :=
  if i.isEnvironment then during || s.pending.isEmpty
  else if i = .accept then s.acceptEnabled || s.pending.isEmpty
  else !s.acceptEnabled && s.pending.isEmpty

/-- Take the word at the head of the input: an illegal word is refused before any effect (R403); an action that runs
now is executed and its word used up; otherwise the CPU side goes on and the word waits. DESIGN CHOICE (log 19; safe):
the spec does not say when an illegal word is decoded, and the model refuses it as soon as it is at the head, even a
plain `word` behind an operation in progress or an enabled ACCEPT, whose actions then never run. -/
def takeWord (w : ActionWord) (during : Bool) (rest : List Input) (s : State) : Result :=
  match decode w with
  | none => .refused (.decodeInvalid w)
  | some i => if s.runsNow i during then exec i { s with input := rest } else cpuTurn s

/-- With nothing issued, the CPU side goes on by itself; with nothing to go on with, the prefix of actions has ended
(R8; log 10). -/
def idleTurn (s : State) : Result :=
  if s.pending.isEmpty && !s.acceptEnabled then .refused .noAction else cpuTurn s

/-- One step of a run that has not stopped. -/
def nextAction (s : State) : Result :=
  match s.input with
  | [] => idleTurn s
  | .cpu :: rest => cpuTurn { s with input := rest }
  | .word w :: rest => takeWord w false rest s
  | .during w :: rest => takeWord w true rest s

/-- Issue a word so that the very next step runs exactly it (log 14): it is put first, and for a CPU action the CPU
is made idle and an ACCEPT that would come first is held off by the shadow, which the action's postlude sets anew. -/
def issueNow (w : ActionWord) (s : State) : State :=
  let s' := { s with input := .during w :: s.input }
  match decode w with
  | none => s'
  | some i => if s.runsNow i true then s' else { s' with pending := [], shadow := s.shadow || s.acceptEnabled }

end Sys2Proof.Machine
end

