-- ==== Sys2Proof/Machine/Step.lean ====
section
/-! DEFINITION. `step`: one action of one agent, and the host's entry for placing the next instruction. -/

namespace Sys2Proof.Machine

/-- One step. In a faulted or refused run no later action is defined (spec R402; log 11). -/
def step (s : State) : Host.Outcome State Fault Refusal :=
  match s.faults, s.refusals with
  | [], [] => nextAction s
  | _ :: _, _ => .fault .runFaulted
  | [], _ :: _ => .refused .runRefused

/-- s with the action word w (bits above `nbits` 0) issued so that the next step runs it. -/
def State.withFetchWord (s : State) (nbits w : Nat) : State :=
  issueNow (BitVec.ofNat 48 (w % 2 ^ nbits)) s

end Sys2Proof.Machine
end

