-- ==== Sys2Proof/Machine/OpcodeTable.lean ====
section
/-! DEFINITION. spec/opcode_table.json as data: the match word and the mask of every row, and the field constraint that
R114 and R117 put beside them (spec 30_encoding.md R116). `decode` is written from the fields of R100 and does not use
this table; the statements compare the two. -/

namespace Sys2Proof

/-- The field constraint of a row beyond its match word and mask (R114, R117). -/
inductive RowConstraint where
  /-- No constraint: every word the mask admits is legal. -/
  | free
  /-- T is 0, 1 or 2. -/
  | timer
  /-- T is 0 or 2. -/
  | timer8
  /-- T is 0, 1 or 2, and U is 0, or 1 with T = 1. -/
  | timerUnit
  /-- As `timer`, and bits 15:0 hold at most 0xFF unless T = 1. -/
  | timerValue
  /-- As `timerUnit`, and bits 15:0 hold at most 0xFF unless T = 1. -/
  | timerUnitValue
  /-- As `timerUnit`, and bits 31:16 hold at most 0xFF unless T = 1. -/
  | timerUnitCount
  /-- CH is 0, 1, 2 or 3. -/
  | channel
  deriving DecidableEq, Repr

/-- Bits 39:38, 37:36, 35:32, 31:16 and 15:0 of a word as numbers (R100, R101). -/
def fieldT (w : ActionWord) : Nat := w.toNat / 2 ^ 38 % 4
def fieldU (w : ActionWord) : Nat := w.toNat / 2 ^ 36 % 4
def fieldCh (w : ActionWord) : Nat := w.toNat / 2 ^ 32 % 16
def fieldHigh (w : ActionWord) : Nat := w.toNat / 2 ^ 16 % 65536
def fieldLow (w : ActionWord) : Nat := w.toNat % 65536

/-- T and U name a compare unit that exists (R100, R117). -/
def unitFieldOk (w : ActionWord) : Bool :=
  decide (fieldT w ≤ 2) && (fieldU w == 0 || (fieldU w == 1 && fieldT w == 1))

/-- A field constraint holds of a word. -/
def RowConstraint.holds (c : RowConstraint) (w : ActionWord) : Bool :=
  match c with
  | .free => true
  | .timer => decide (fieldT w ≤ 2)
  | .timer8 => fieldT w == 0 || fieldT w == 2
  | .timerUnit => unitFieldOk w
  | .timerValue => decide (fieldT w ≤ 2) && (fieldT w == 1 || decide (fieldLow w ≤ 0xFF))
  | .timerUnitValue => unitFieldOk w && (fieldT w == 1 || decide (fieldLow w ≤ 0xFF))
  | .timerUnitCount => unitFieldOk w && (fieldT w == 1 || decide (fieldHigh w ≤ 0xFF))
  | .channel => decide (fieldCh w ≤ 3)

/-- A row of the opcode table. -/
structure OpcodeRow where
  code : ActionWord
  mask : ActionWord
  constraint : RowConstraint
  deriving DecidableEq, Repr

/-- A word matches a row and keeps its field constraint (R116). -/
def OpcodeRow.admits (r : OpcodeRow) (w : ActionWord) : Bool :=
  w &&& r.mask == r.code && r.constraint.holds w

/-- The row of an action. -/
def rowOf : Instr → OpcodeRow
  | .rdTccr0 => ⟨0x000000005300#48, 0xFFFFFFFFFFFF#48, .free⟩
  | .rdTcnt0 => ⟨0x000000005200#48, 0xFFFFFFFFFFFF#48, .free⟩
  | .rdOcr0 => ⟨0x000000005C00#48, 0xFFFFFFFFFFFF#48, .free⟩
  | .rdTccr2 => ⟨0x000000004500#48, 0xFFFFFFFFFFFF#48, .free⟩
  | .rdTcnt2 => ⟨0x000000004400#48, 0xFFFFFFFFFFFF#48, .free⟩
  | .rdOcr2 => ⟨0x000000004300#48, 0xFFFFFFFFFFFF#48, .free⟩
  | .rdAssr => ⟨0x000000004200#48, 0xFFFFFFFFFFFF#48, .free⟩
  | .rdTccr1a => ⟨0x000000004F00#48, 0xFFFFFFFFFFFF#48, .free⟩
  | .rdTccr1b => ⟨0x000000004E00#48, 0xFFFFFFFFFFFF#48, .free⟩
  | .rdTcnt1h => ⟨0x000000004D00#48, 0xFFFFFFFFFFFF#48, .free⟩
  | .rdTcnt1l => ⟨0x000000004C00#48, 0xFFFFFFFFFFFF#48, .free⟩
  | .rdOcr1ah => ⟨0x000000004B00#48, 0xFFFFFFFFFFFF#48, .free⟩
  | .rdOcr1al => ⟨0x000000004A00#48, 0xFFFFFFFFFFFF#48, .free⟩
  | .rdOcr1bh => ⟨0x000000004900#48, 0xFFFFFFFFFFFF#48, .free⟩
  | .rdOcr1bl => ⟨0x000000004800#48, 0xFFFFFFFFFFFF#48, .free⟩
  | .rdIcr1h => ⟨0x000000004700#48, 0xFFFFFFFFFFFF#48, .free⟩
  | .rdIcr1l => ⟨0x000000004600#48, 0xFFFFFFFFFFFF#48, .free⟩
  | .rdTimsk => ⟨0x000000005900#48, 0xFFFFFFFFFFFF#48, .free⟩
  | .rdTifr => ⟨0x000000005800#48, 0xFFFFFFFFFFFF#48, .free⟩
  | .rdSfior => ⟨0x000000005000#48, 0xFFFFFFFFFFFF#48, .free⟩
  | .wrTccr0 _ => ⟨0x100000005300#48, 0xFFFFFFFFFF00#48, .free⟩
  | .wrTcnt0 _ => ⟨0x100000005200#48, 0xFFFFFFFFFF00#48, .free⟩
  | .wrOcr0 _ => ⟨0x100000005C00#48, 0xFFFFFFFFFF00#48, .free⟩
  | .wrTccr2 _ => ⟨0x100000004500#48, 0xFFFFFFFFFF00#48, .free⟩
  | .wrTcnt2 _ => ⟨0x100000004400#48, 0xFFFFFFFFFF00#48, .free⟩
  | .wrOcr2 _ => ⟨0x100000004300#48, 0xFFFFFFFFFF00#48, .free⟩
  | .wrAssr _ => ⟨0x100000004200#48, 0xFFFFFFFFFF00#48, .free⟩
  | .wrTccr1a _ => ⟨0x100000004F00#48, 0xFFFFFFFFFF00#48, .free⟩
  | .wrTccr1b _ => ⟨0x100000004E00#48, 0xFFFFFFFFFF00#48, .free⟩
  | .wrTcnt1h _ => ⟨0x100000004D00#48, 0xFFFFFFFFFF00#48, .free⟩
  | .wrTcnt1l _ => ⟨0x100000004C00#48, 0xFFFFFFFFFF00#48, .free⟩
  | .wrOcr1ah _ => ⟨0x100000004B00#48, 0xFFFFFFFFFF00#48, .free⟩
  | .wrOcr1al _ => ⟨0x100000004A00#48, 0xFFFFFFFFFF00#48, .free⟩
  | .wrOcr1bh _ => ⟨0x100000004900#48, 0xFFFFFFFFFF00#48, .free⟩
  | .wrOcr1bl _ => ⟨0x100000004800#48, 0xFFFFFFFFFF00#48, .free⟩
  | .wrIcr1h _ => ⟨0x100000004700#48, 0xFFFFFFFFFF00#48, .free⟩
  | .wrIcr1l _ => ⟨0x100000004600#48, 0xFFFFFFFFFF00#48, .free⟩
  | .wrTimsk _ => ⟨0x100000005900#48, 0xFFFFFFFFFF00#48, .free⟩
  | .wrTifr _ => ⟨0x100000005800#48, 0xFFFFFFFFFF00#48, .free⟩
  | .wrSfior _ => ⟨0x100000005000#48, 0xFFFFFFFFFF00#48, .free⟩
  | .clk => ⟨0x200000000000#48, 0xFFFFFFFFFFFF#48, .free⟩
  | .pinT0 _ => ⟨0x210000000000#48, 0xFFFFFFFFFFFE#48, .free⟩
  | .pinT1 _ => ⟨0x220000000000#48, 0xFFFFFFFFFFFE#48, .free⟩
  | .pinIcp1 _ => ⟨0x230000000000#48, 0xFFFFFFFFFFFE#48, .free⟩
  | .sei => ⟨0x300000000000#48, 0xFFFFFFFFFFFF#48, .free⟩
  | .cli => ⟨0x310000000000#48, 0xFFFFFFFFFFFF#48, .free⟩
  | .accept => ⟨0x320000000000#48, 0xFFFFFFFFFFFF#48, .free⟩
  | .reti => ⟨0x330000000000#48, 0xFFFFFFFFFFFF#48, .free⟩
  | .slotStore _ _ => ⟨0x400000000000#48, 0xFFFFFFF80000#48, .free⟩
  | .invoke _ => ⟨0x410000000000#48, 0xFFFFFFF8FFFF#48, .free⟩
  | .init _ _ _ _ _ _ => ⟨0x500000000000#48, 0xFF0F0000000F#48, .timerUnitCount⟩
  | .disable _ => ⟨0x510000000000#48, 0xFF3FFFFFFFFF#48, .timer⟩
  | .setCompare _ _ _ => ⟨0x520000000000#48, 0xFF0FFFFF0000#48, .timerUnitValue⟩
  | .setTimer _ _ => ⟨0x530000000000#48, 0xFF3FFFFF0000#48, .timerValue⟩
  | .getTimer _ => ⟨0x540000000000#48, 0xFF3FFFFFFFFF#48, .timer⟩
  | .delayMs _ _ => ⟨0x550000000000#48, 0xFF3F00000000#48, .timer8⟩
  | .enableOvfInt _ _ => ⟨0x560000000000#48, 0xFF3FFFFF0000#48, .timer⟩
  | .enableCmpInt _ _ _ => ⟨0x570000000000#48, 0xFF0FFFFF0000#48, .timerUnit⟩
  | .enableCaptInt _ => ⟨0x584000000000#48, 0xFFFFFFFF0000#48, .free⟩
  | .disableOvfInt _ => ⟨0x590000000000#48, 0xFF3FFFFFFFFF#48, .timer⟩
  | .disableCmpInt _ _ => ⟨0x5A0000000000#48, 0xFF0FFFFFFFFF#48, .timerUnit⟩
  | .disableCaptInt => ⟨0x5B4000000000#48, 0xFFFFFFFFFFFF#48, .free⟩
  | .dispatch _ => ⟨0x5C0000000000#48, 0xFFFFFFFFFFF8#48, .free⟩
  | .pwmInit _ _ => ⟨0x5D0000000000#48, 0xFFF000000000#48, .channel⟩
  | .pwmWrite _ _ => ⟨0x5E0000000000#48, 0xFFF0FFFFFF00#48, .channel⟩

/-- The rows of class BUSRD (R104). -/
def busRdRows : List OpcodeRow := [
  rowOf .rdTccr0,
  rowOf .rdTcnt0,
  rowOf .rdOcr0,
  rowOf .rdTccr2,
  rowOf .rdTcnt2,
  rowOf .rdOcr2,
  rowOf .rdAssr,
  rowOf .rdTccr1a,
  rowOf .rdTccr1b,
  rowOf .rdTcnt1h,
  rowOf .rdTcnt1l,
  rowOf .rdOcr1ah,
  rowOf .rdOcr1al,
  rowOf .rdOcr1bh,
  rowOf .rdOcr1bl,
  rowOf .rdIcr1h,
  rowOf .rdIcr1l,
  rowOf .rdTimsk,
  rowOf .rdTifr,
  rowOf .rdSfior]

/-- The rows of class BUSWR (R104). -/
def busWrRows : List OpcodeRow := [
  rowOf (.wrTccr0 0#8),
  rowOf (.wrTcnt0 0#8),
  rowOf (.wrOcr0 0#8),
  rowOf (.wrTccr2 0#8),
  rowOf (.wrTcnt2 0#8),
  rowOf (.wrOcr2 0#8),
  rowOf (.wrAssr 0#8),
  rowOf (.wrTccr1a 0#8),
  rowOf (.wrTccr1b 0#8),
  rowOf (.wrTcnt1h 0#8),
  rowOf (.wrTcnt1l 0#8),
  rowOf (.wrOcr1ah 0#8),
  rowOf (.wrOcr1al 0#8),
  rowOf (.wrOcr1bh 0#8),
  rowOf (.wrOcr1bl 0#8),
  rowOf (.wrIcr1h 0#8),
  rowOf (.wrIcr1l 0#8),
  rowOf (.wrTimsk 0#8),
  rowOf (.wrTifr 0#8),
  rowOf (.wrSfior 0#8)]

/-- The rows of the classes EVENT, CORE and SLOT (R105 to R107). -/
def otherRows : List OpcodeRow := [
  rowOf .clk,
  rowOf (.pinT0 false),
  rowOf (.pinT1 false),
  rowOf (.pinIcp1 false),
  rowOf .sei,
  rowOf .cli,
  rowOf .accept,
  rowOf .reti,
  rowOf (.slotStore .t0Ovf 0#16),
  rowOf (.invoke .t0Ovf)]

/-- The rows of class DRIVER (R114). -/
def driverRows : List OpcodeRow := [
  rowOf (.init .t0 .a 0#16 0#4 0#4 0#4),
  rowOf (.disable .t0),
  rowOf (.setCompare .t0 .a 0#16),
  rowOf (.setTimer .t0 0#16),
  rowOf (.getTimer .t0),
  rowOf (.delayMs .t0 0#32),
  rowOf (.enableOvfInt .t0 0#16),
  rowOf (.enableCmpInt .t0 .a 0#16),
  rowOf (.enableCaptInt 0#16),
  rowOf (.disableOvfInt .t0),
  rowOf (.disableCmpInt .t0 .a),
  rowOf .disableCaptInt,
  rowOf (.dispatch .t0Ovf),
  rowOf (.pwmInit .ch0 0#32),
  rowOf (.pwmWrite .ch0 0#8)]

/-- The 65 rows of spec/opcode_table.json. -/
def opcodeTable : List OpcodeRow := busRdRows ++ busWrRows ++ otherRows ++ driverRows

end Sys2Proof
end

