-- ==== Sys2Proof/Safety.lean ====
section
/-! DEFINITION. The terms the statements use: runs, the invariant every step keeps, sequences of clock actions,
uninterrupted driver calls, and views of the state that cover Timer0 and Timer2 at once. -/

namespace Sys2Proof.Machine

/-! ### Runs and safety -/

/-- t is reached from s by steps that answer a next state. -/
inductive Reaches (s : State) : State → Prop where
  | refl : Reaches s s
  | tail {t u : State} (h : Reaches s t) (hs : step t = .next u) : Reaches s u

/-- A safe run from s: no reachable state's step is a fault (the only one a legal run can raise is
CALLBACK_EMPTY, spec R400). -/
def SafeFrom (s : State) : Prop := ∀ t, Reaches s t → ∀ f, step t ≠ .fault f

/-- k steps of a run. -/
def runSteps (k : Nat) (s : State) : Result := Sys2Proof.core.run k s

/-- k CLK actions, one after another, with nothing in between (spec R121: `CLK*k`). -/
def clocks : Nat → State → Result
  | 0, s => .next s
  | k + 1, s =>
    match exec .clk s with
    | .next t => clocks k t
    | .fault f => .fault f
    | .refused r => .refused r

/-! ### The invariant -/

/-- In the modes that are not buffered, each active compare value is the buffer (R25, R174, R175). -/
structure CompareFollows (s : State) : Prop where
  ocr0 : (class8 s.t0.wgm).unbuffered = true → s.t0.ocrAct = s.t0.ocrBuf
  ocr2 : (class8 s.t2.wgm).unbuffered = true → s.t2.ocrAct = s.t2.ocrBuf
  ocr1a : (class1 s.t1.wgm).unbuffered = true → s.t1.ocrAAct = s.t1.ocrABuf
  ocr1b : (class1 s.t1.wgm).unbuffered = true → s.t1.ocrBAct = s.t1.ocrBBuf

/-- The number of RETI actions that wait among the operations in progress. -/
def retiCount (ms : List Micro) : Nat := ms.countP (· == .reti)

/-- No slot holds the null callback id (R61, R336). -/
def Slots.noNull (sl : Slots) : Prop := ∀ src, slotOf sl src ≠ some 0#16

/-- The invariant of the block: compare values follow their buffers where they must;
asynchronous mode is never entered (R166, R404);
no slot holds the null id (R61);
every accepted interrupt has exactly one RETI still to come (R333, R344);
and the run has recorded no stop (R65, R402). -/
structure Inv (s : State) : Prop where
  compare : CompareFollows s
  async : s.as2 = false
  slots : s.slots.noNull
  isr : retiCount s.pending = s.isr.length
  noFault : s.faults = []
  noRefusal : s.refusals = []

/-! ### Bus words (R103) -/

/-- The word of a read of data address a: ADDR in bits 15:8, everything else 0. -/
def readWord (a : Nat) : ActionWord := BitVec.ofNat 48 (256 * a)

/-- The word of a write of d to data address a: CLASS 1, ADDR in bits 15:8, DATA in bits 7:0. -/
def writeWord (a : Nat) (d : Byte) : ActionWord := BitVec.ofNat 48 (0x100000000000 + 256 * a + d.toNat)

/-! ### Driver calls -/

/-- The CPU may start an operation and no interrupt request will come before its end: the run has not stopped,
nothing is in progress, and no source is pending while GIE is 1. -/
structure Ready (s : State) : Prop where
  noFault : s.faults = []
  noRefusal : s.refusals = []
  idle : s.pending = []
  noRequest : s.gie = false ∨ s.tifr &&& s.timsk = 0#8

/-- s with the word of i as the only thing issued: with no other agent acting, the steps that follow are i's own. -/
def State.calling (s : State) (i : Instr) : State := { s with input := [.word (encode i)] }

/-! ### Timer0 and Timer2 at once -/

/-- Timer n. -/
def State.timer8 (s : State) : Timer8Id → Timer8
  | .t0 => s.t0
  | .t2 => s.t2

/-- s with Timer n replaced. -/
def State.withTimer8 (s : State) (n : Timer8Id) (t : Timer8) : State :=
  match n with
  | .t0 => { s with t0 := t }
  | .t2 => { s with t2 := t }

/-- Whether Timer n ticks in the next CLK (R233). -/
def State.ticks8 (s : State) : Timer8Id → Bool
  | .t0 => tick0 s
  | .t2 => tick2 s

/-- The prescaler of Timer n (R231). -/
def State.prescaler8 (s : State) : Timer8Id → Nat
  | .t0 => s.p01.toNat
  | .t2 => s.p2.toNat

/-- The divisor a clock select of Timer n names, if it names one (R108, R109). -/
def divisor8 : Timer8Id → Nat → Option Nat
  | .t0, 1 => some 1
  | .t0, 2 => some 8
  | .t0, 3 => some 64
  | .t0, 4 => some 256
  | .t0, 5 => some 1024
  | .t2, 1 => some 1
  | .t2, 2 => some 8
  | .t2, 3 => some 32
  | .t2, 4 => some 64
  | .t2, 5 => some 128
  | .t2, 6 => some 256
  | .t2, 7 => some 1024
  | _, _ => none

/-- Only Timer n has a clock selected. -/
def State.onlyTimer8Runs (s : State) (n : Timer8Id) : Prop :=
  s.t1.cs = 0#3 ∧
  match n with
  | .t0 => s.t2.cs = 0#3
  | .t2 => s.t0.cs = 0#3

/-! ### Flags and outputs -/

/-- The flag of a source in TIFR (R60). -/
def State.flag (s : State) (src : Source) : Bool := s.tifr.getLsbD (sourceBit src)

/-- Toggle, clear or set by COM = 01, 10, 11, and no action for 00 (R260). -/
def actOn (com : BitVec 2) (oc : Bool) : Bool :=
  if com = 1#2 then !oc else if com = 2#2 then false else if com = 3#2 then true else oc

end Sys2Proof.Machine
end

