-- ==== Sys2Proof/Certificates/Slice0/Obligations.lean ====
section
/-! DEFINITION. The statements about the timer block, one `def Obligations.<Name> : Prop` each. OBLIGATIONS.json says
which rule of spec/ each one formalises. -/

section Statements

open Sys2Proof Sys2Proof.Machine

/-! ### Encoding and decoding (30_encoding.md) -/

/-- The word of a well-formed action decodes to it, every operand included. -/
def Obligations.DecodeOfEncode : Prop :=
  ∀ i : Instr, i.wellFormed = true → decode (encode i) = some i

/-- A word that decodes is the word of what it decodes to, and that is well formed: no bit is dropped (R100, R117). -/
def Obligations.EncodeOfDecode : Prop :=
  ∀ (w : ActionWord) (i : Instr), decode w = some i → i.wellFormed = true ∧ encode i = w

/-- R116: a word is legal exactly when some row of spec/opcode_table.json matches it under its mask and the row's field
constraint holds; the row is that of the action the word decodes to. -/
def Obligations.LegalWordsMatchARow : Prop :=
  ∀ w : ActionWord,
    ((decode w).isSome = true ↔ ∃ r ∈ opcodeTable, r.admits w = true) ∧
    ∀ i, decode w = some i → (rowOf i).admits w = true ∧ rowOf i ∈ opcodeTable

/-- Words written out from the encoding tables decode to the actions they stand for. -/
def Obligations.SampleWordsDecode : Prop :=
  decode 0x000000005300#48 = some .rdTccr0 ∧
  decode 0x100000005319#48 = some (.wrTccr0 0x19#8) ∧
  decode 0x200000000000#48 = some .clk ∧
  decode 0x230000000001#48 = some (.pinIcp1 true) ∧
  decode 0x330000000000#48 = some .reti ∧
  decode 0x400000050009#48 = some (.slotStore .t1Capt 9#16) ∧
  decode 0x410000070000#48 = some (.invoke .t2Comp) ∧
  decode 0x50501234E120#48 = some (.init .t1 .b 0x1234#16 14#4 1#4 2#4) ∧
  decode 0x5250000001F4#48 = some (.setCompare .t1 .b 0x01F4#16) ∧
  decode 0x5580000003E8#48 = some (.delayMs .t2 1000#32) ∧
  decode 0x5C0000000005#48 = some (.dispatch .t1Capt) ∧
  decode 0x5E0300000064#48 = some (.pwmWrite .ch3 100#8)

/-! ### Steps and scheduling (00_scope.md R6, R7, R13; 60_exceptions.md) -/

/-- A step runs the decoded action: a clock or pin action that is issued in the middle of an operation, or with none in
progress; a CPU action when no operation is in progress and no ACCEPT comes first; ACCEPT where it is enabled or nothing
is in progress. Nothing is added around `exec` but that the word is used up. Two points are the model's choice: the
schedule as data, with words that wait and words that come during an operation (log 2), and that an ACCEPT word which
R332 does not enable reaches `exec` at all, with nothing in progress, there to be refused (log 9). -/
def Obligations.StepRunsTheDecodedAction : Prop :=
  ∀ (s : State) (w : ActionWord) (i : Instr) (rest : List Input),
    s.faults = [] → s.refusals = [] → decode w = some i →
    (i.isEnvironment = true → s.input = .during w :: rest →
      step s = exec i { s with input := rest }) ∧
    (i.isEnvironment = true → s.input = .word w :: rest → s.pending = [] →
      step s = exec i { s with input := rest }) ∧
    (i.isEnvironment = false → i ≠ .accept → s.input = .word w :: rest ∨ s.input = .during w :: rest →
      s.pending = [] → s.acceptEnabled = false →
      step s = exec i { s with input := rest }) ∧
    (i = .accept → s.input = .word w :: rest ∨ s.input = .during w :: rest →
      s.acceptEnabled = true ∨ s.pending = [] →
      step s = exec i { s with input := rest })

/-- R403: an illegal word is refused before any effect; the refusal records the word. That it is refused as soon as it
is at the head of the input, also behind an operation in progress or an enabled ACCEPT, is the model's choice
(log 19). -/
def Obligations.IllegalWordIsRefused : Prop :=
  ∀ (s : State) (w : ActionWord) (rest : List Input),
    s.faults = [] → s.refusals = [] → s.input = .word w :: rest ∨ s.input = .during w :: rest → decode w = none →
    step s = .refused (.decodeInvalid w) ∧
    recordStop (step s) s = { s with refusals := [.decodeInvalid w] }

/-- R332: when ACCEPT is enabled, and that where it is enabled the next CPU-side step is ACCEPT, whether the CPU is in
the middle of an operation, has its turn, or has a new action to start. Two points are the model's choice: that with an
empty input the step is the CPU side's (log 10), and the schedule as data (log 2), by which a plain clock or pin word
waits for the operation in progress, so that the step is ACCEPT there too; the spec lets CLK and PIN actions come first,
and the words that come during an operation do. -/
def Obligations.AcceptGoesFirst : Prop :=
  ∀ s : State,
    (s.acceptEnabled = true ↔
      s.gie = true ∧ s.shadow = false ∧
      (∃ src, s.tifr.getLsbD (sourceBit src) = true ∧ s.timsk.getLsbD (sourceBit src) = true) ∧
      s.faults = [] ∧ s.refusals = []) ∧
    (s.acceptEnabled = true →
      (s.input = [] → step s = exec .accept s) ∧
      (∀ rest, s.input = .cpu :: rest → step s = exec .accept { s with input := rest }) ∧
      (∀ w i rest, s.input = .word w :: rest ∨ s.input = .during w :: rest → decode w = some i →
        i.isEnvironment = false → i ≠ .accept → step s = exec .accept s) ∧
      (∀ w i rest, s.input = .word w :: rest → decode w = some i → i.isEnvironment = true → s.pending ≠ [] →
        step s = exec .accept s))

/-- Program order (R6, R13): while an operation is in progress and no ACCEPT is enabled, the CPU side does its next
action in its turn, and a word issued for the CPU stays where it is. The rest is the model's choice: the schedule as
data, by which a plain clock or pin word waits for the operation in progress too, where the spec lets CLK and PIN come
at any action boundary, as the words that come during an operation do (log 2); and that with an empty input the
operation goes on, that with nothing in progress a CPU turn does nothing, and that an empty input then ends the prefix
of actions (log 10). -/
def Obligations.OperationGoesOnInOrder : Prop :=
  ∀ s : State, s.faults = [] → s.refusals = [] → s.acceptEnabled = false →
    (∀ m ms, s.pending = m :: ms →
      (s.input = [] → step s = microStep m { s with pending := ms }) ∧
      (∀ rest, s.input = .cpu :: rest → step s = microStep m { s with pending := ms, input := rest }) ∧
      (∀ w i rest, s.input = .word w :: rest → decode w = some i →
        step s = microStep m { s with pending := ms }) ∧
      (∀ w i rest, s.input = .during w :: rest → decode w = some i → i.isEnvironment = false →
        step s = microStep m { s with pending := ms })) ∧
    (s.pending = [] →
      (∀ rest, s.input = .cpu :: rest → step s = .next { s with input := rest }) ∧
      (s.input = [] → step s = .refused .noAction))

/-- R402: a step that raises a code leaves the state it started in, with the code recorded; ACCEPT is not enabled there
and no further step is taken. -/
def Obligations.StoppedRunStaysStopped : Prop :=
  ∀ s : State,
    (∀ r, step s = .refused r → r.isCode = true →
      recordStop (step s) s = { s with refusals := [r] } ∧
      (recordStop (step s) s).acceptEnabled = false ∧
      step (recordStop (step s) s) = .refused .runRefused) ∧
    (∀ src, step s = .fault (.callbackEmpty src) →
      recordStop (step s) s = { s with faults := [.callbackEmpty src] } ∧
      (recordStop (step s) s).acceptEnabled = false ∧
      step (recordStop (step s) s) = .fault .runFaulted)

/-! ### Reset (10_state.md R70, 70_reset_and_hazards.md) -/

/-- R70: every piece of state after reset, for every draw of what is unspecified; the model's reset state is the one of
some draw. -/
def Obligations.ResetState : Prop :=
  (∃ d : Draw, State.reset = State.resetWith d) ∧
  ∀ d : Draw,
    (∀ r, r ≠ .tcnt1h → r ≠ .icr1h → (State.resetWith d).readValue r = 0#8) ∧
    (∀ n, ((State.resetWith d).timer8 n).ocrAct = 0#8 ∧ ((State.resetWith d).timer8 n).dir = .up ∧
      ((State.resetWith d).timer8 n).oc = false ∧ ((State.resetWith d).timer8 n).blk = false) ∧
    (State.resetWith d).t1.tcnt = 0#16 ∧ (State.resetWith d).t1.icr = 0#16 ∧
    (State.resetWith d).t1.ocrABuf = 0#16 ∧ (State.resetWith d).t1.ocrAAct = 0#16 ∧
    (State.resetWith d).t1.ocrBBuf = 0#16 ∧ (State.resetWith d).t1.ocrBAct = 0#16 ∧
    (State.resetWith d).t1.ocA = false ∧ (State.resetWith d).t1.ocB = false ∧
    (State.resetWith d).t1.dir = .up ∧ (State.resetWith d).t1.blk = false ∧
    (State.resetWith d).p01 = 0#10 ∧ (State.resetWith d).p2 = 0#10 ∧
    (State.resetWith d).t1.temp = d.temp ∧
    (State.resetWith d).t0Pin = d.t0Pin ∧ (State.resetWith d).t1Pin = d.t1Pin ∧
    (State.resetWith d).t0Smp = d.t0Smp ∧ (State.resetWith d).t1Smp = d.t1Smp ∧
    (State.resetWith d).icpPin = d.icpPin ∧ (State.resetWith d).icpHist = d.icpHist ∧
    (State.resetWith d).icpFilt = d.icpFilt ∧
    (∀ src, slotOf (State.resetWith d).slots src = none) ∧
    (State.resetWith d).gie = false ∧ (State.resetWith d).shadow = false ∧ (State.resetWith d).isr = [] ∧
    (State.resetWith d).faults = [] ∧ (State.resetWith d).refusals = []

/-- The invariant holds after reset, for every draw. -/
def Obligations.ResetMeetsInvariant : Prop := ∀ d : Draw, Inv (State.resetWith d)

/-- Every step that answers a next state keeps the invariant. -/
def Obligations.StepKeepsInvariant : Prop := ∀ s t : State, Inv s → step s = .next t → Inv t

/-- R441: from reset, any number of CLKs completes, ticks no timer and enables no ACCEPT; the prescalers count, and no
flag is set but ICF1, and that only by a falling edge that the draw holds. -/
def Obligations.ClocksAfterReset : Prop :=
  ∀ (d : Draw) (k : Nat), ∃ t, clocks k (State.resetWith d) = .next t ∧
    t.t0 = Timer8.reset ∧ t.t2 = Timer8.reset ∧ t.t1 = Timer1.resetWith d.temp ∧
    t.p01.toNat = k % 1024 ∧ t.p2.toNat = k % 1024 ∧
    t.tifr &&& 0xDF#8 = 0#8 ∧ (d.icpFilt = false ∨ d.icpPin = true → t.tifr = 0#8) ∧
    t.timsk = 0#8 ∧ t.gie = false ∧ t.isr = [] ∧ t.acceptEnabled = false ∧
    (∀ p, t.outputPin p = none)

/-! ### Bus reads (40_register_access.md) -/

/-- R152 to R166, R200 to R210: the byte each read returns, bit place by bit place, and that a read changes nothing but
the byte returned and the shadow. -/
def Obligations.ReadsOfByteRegisters : Prop :=
  ∀ s : State,
    exec .rdTccr0 s = .next { s with
      rdata := BitVec.ofNat 8 (64 * (s.t0.wgm.toNat % 2) + 16 * s.t0.com.toNat + 8 * (s.t0.wgm.toNat / 2)
        + s.t0.cs.toNat)
      shadow := false } ∧
    exec .rdTcnt0 s = .next { s with rdata := s.t0.tcnt, shadow := false } ∧
    exec .rdOcr0 s = .next { s with rdata := s.t0.ocrBuf, shadow := false } ∧
    exec .rdTccr2 s = .next { s with
      rdata := BitVec.ofNat 8 (64 * (s.t2.wgm.toNat % 2) + 16 * s.t2.com.toNat + 8 * (s.t2.wgm.toNat / 2)
        + s.t2.cs.toNat)
      shadow := false } ∧
    exec .rdTcnt2 s = .next { s with rdata := s.t2.tcnt, shadow := false } ∧
    exec .rdOcr2 s = .next { s with rdata := s.t2.ocrBuf, shadow := false } ∧
    exec .rdAssr s = .next { s with rdata := if s.as2 then 8#8 else 0#8, shadow := false } ∧
    exec .rdTimsk s = .next { s with rdata := s.timsk, shadow := false } ∧
    exec .rdTifr s = .next { s with rdata := s.tifr, shadow := false } ∧
    exec .rdSfior s = .next { s with
      rdata := BitVec.ofNat 8 (32 * s.adts.toNat + (if s.acme then 8 else 0) + (if s.pud then 4 else 0))
      shadow := false } ∧
    ∀ p ∈ [(0x53, Instr.rdTccr0), (0x52, .rdTcnt0), (0x5C, .rdOcr0), (0x45, .rdTccr2), (0x44, .rdTcnt2),
        (0x43, .rdOcr2), (0x42, .rdAssr), (0x59, .rdTimsk), (0x58, .rdTifr), (0x50, .rdSfior)],
      decode (readWord p.1) = some p.2

/-- R170 to R195: the reads of Timer1's registers. The low bytes of TCNT1 and ICR1 load TEMP1, their high bytes are
read from TEMP1; OCR1A and OCR1B are read directly. -/
def Obligations.ReadsOfTimer1 : Prop :=
  ∀ s : State,
    exec .rdTccr1a s = .next { s with
      rdata := BitVec.ofNat 8 (64 * s.t1.comA.toNat + 16 * s.t1.comB.toNat + s.t1.wgm.toNat % 4)
      shadow := false } ∧
    exec .rdTccr1b s = .next { s with
      rdata := BitVec.ofNat 8 ((if s.t1.icnc then 128 else 0) + (if s.t1.ices then 64 else 0)
        + 8 * (s.t1.wgm.toNat / 4) + s.t1.cs.toNat)
      shadow := false } ∧
    exec .rdTcnt1l s = .next { s with
      t1 := { s.t1 with temp := BitVec.ofNat 8 (s.t1.tcnt.toNat / 256) }
      rdata := BitVec.ofNat 8 (s.t1.tcnt.toNat % 256)
      shadow := false } ∧
    exec .rdTcnt1h s = .next { s with rdata := s.t1.temp, shadow := false } ∧
    exec .rdIcr1l s = .next { s with
      t1 := { s.t1 with temp := BitVec.ofNat 8 (s.t1.icr.toNat / 256) }
      rdata := BitVec.ofNat 8 (s.t1.icr.toNat % 256)
      shadow := false } ∧
    exec .rdIcr1h s = .next { s with rdata := s.t1.temp, shadow := false } ∧
    exec .rdOcr1al s = .next { s with rdata := BitVec.ofNat 8 (s.t1.ocrABuf.toNat % 256), shadow := false } ∧
    exec .rdOcr1ah s = .next { s with rdata := BitVec.ofNat 8 (s.t1.ocrABuf.toNat / 256), shadow := false } ∧
    exec .rdOcr1bl s = .next { s with rdata := BitVec.ofNat 8 (s.t1.ocrBBuf.toNat % 256), shadow := false } ∧
    exec .rdOcr1bh s = .next { s with rdata := BitVec.ofNat 8 (s.t1.ocrBBuf.toNat / 256), shadow := false } ∧
    ∀ p ∈ [(0x4F, Instr.rdTccr1a), (0x4E, .rdTccr1b), (0x4D, .rdTcnt1h), (0x4C, .rdTcnt1l), (0x4B, .rdOcr1ah),
        (0x4A, .rdOcr1al), (0x49, .rdOcr1bh), (0x48, .rdOcr1bl), (0x47, .rdIcr1h), (0x46, .rdIcr1l)],
      decode (readWord p.1) = some p.2

/-- R85, R182, R194: the low read, any number of CLKs and the high read give the 16-bit value of the moment of the low
read, whatever the counter or a capture does in between. -/
def Obligations.SixteenBitReadIsOneValue : Prop :=
  ∀ (s s1 s2 s3 : State) (k : Nat),
    (exec .rdTcnt1l s = .next s1 → clocks k s1 = .next s2 → exec .rdTcnt1h s2 = .next s3 →
      256 * s3.rdata.toNat + s1.rdata.toNat = s.t1.tcnt.toNat) ∧
    (exec .rdIcr1l s = .next s1 → clocks k s1 = .next s2 → exec .rdIcr1h s2 = .next s3 →
      256 * s3.rdata.toNat + s1.rdata.toNat = s.t1.icr.toNat)

/-- R85, R180, R181, R184, R185: the high write, any number of CLKs and the low write store one 16-bit value: in the
counter, in a compare register's buffer, and in ICR1 where it is TOP. -/
def Obligations.SixteenBitWriteIsOneValue : Prop :=
  ∀ (s s1 s2 s3 : State) (k : Nat) (h l : Byte),
    (exec (.wrTcnt1h h) s = .next s1 → clocks k s1 = .next s2 → exec (.wrTcnt1l l) s2 = .next s3 →
      s3.t1.tcnt.toNat = 256 * h.toNat + l.toNat ∧ s3.t1.blk = true) ∧
    (exec (.wrOcr1ah h) s = .next s1 → clocks k s1 = .next s2 → exec (.wrOcr1al l) s2 = .next s3 →
      s3.t1.ocrABuf.toNat = 256 * h.toNat + l.toNat) ∧
    (exec (.wrOcr1bh h) s = .next s1 → clocks k s1 = .next s2 → exec (.wrOcr1bl l) s2 = .next s3 →
      s3.t1.ocrBBuf.toNat = 256 * h.toNat + l.toNat) ∧
    (s.t1.wgm ∈ [8#4, 10#4, 12#4, 14#4] →
      exec (.wrIcr1h h) s = .next s1 → clocks k s1 = .next s2 → exec (.wrIcr1l l) s2 = .next s3 →
      s3.t1.icr.toNat = 256 * h.toNat + l.toNat)

/-! ### Bus writes -/

/-- R153, R161, R175, R176, R266: a write of TCCR0 or TCCR2. The new mode, action and clock come from the byte; the
active compare value becomes the buffer in modes 0 and 2; bit 7 applies the new action to the latch, in modes 0 and 2
only; nothing else changes. -/
def Obligations.ControlWriteOfTimer8 : Prop :=
  ∀ (n : Timer8Id) (d : Byte) (s : State), ∃ x : Timer8,
    exec ((tccrOf n).writeInstr d) s = .next { s.withTimer8 n x with shadow := false } ∧
    x.wgm.toNat = 2 * (d.toNat / 8 % 2) + d.toNat / 64 % 2 ∧
    x.com.toNat = d.toNat / 16 % 4 ∧
    x.cs.toNat = d.toNat % 8 ∧
    x.ocrAct = (if x.wgm = 0#2 ∨ x.wgm = 2#2 then (s.timer8 n).ocrBuf else (s.timer8 n).ocrAct) ∧
    x.oc = (if 128 ≤ d.toNat ∧ (x.wgm = 0#2 ∨ x.wgm = 2#2) then actOn x.com (s.timer8 n).oc else (s.timer8 n).oc) ∧
    x.tcnt = (s.timer8 n).tcnt ∧ x.ocrBuf = (s.timer8 n).ocrBuf ∧ x.dir = (s.timer8 n).dir ∧
    x.blk = (s.timer8 n).blk ∧
    decode (writeWord (match n with | .t0 => 0x53 | .t2 => 0x45) d) = some ((tccrOf n).writeInstr d)

/-- R155, R157, R163, R165, R174: a write of the counter sets the compare block; a write of the compare register sets
the buffer, and the active value too in modes 0 and 2. -/
def Obligations.CounterAndCompareWriteOfTimer8 : Prop :=
  ∀ (n : Timer8Id) (d : Byte) (s : State),
    exec ((tcntOf n).writeInstr d) s =
      .next { s.withTimer8 n { s.timer8 n with tcnt := d, blk := true } with shadow := false } ∧
    exec ((ocrOf n).writeInstr d) s =
      .next { s.withTimer8 n { s.timer8 n with
        ocrBuf := d
        ocrAct := if (s.timer8 n).wgm = 0#2 ∨ (s.timer8 n).wgm = 2#2 then d else (s.timer8 n).ocrAct } with
        shadow := false } ∧
    decode (writeWord (match n with | .t0 => 0x52 | .t2 => 0x44) d) = some ((tcntOf n).writeInstr d) ∧
    decode (writeWord (match n with | .t0 => 0x5C | .t2 => 0x43) d) = some ((ocrOf n).writeInstr d)

/-- R171, R173: writes of TCCR1A and TCCR1B. Each replaces its two bits of the mode; in modes 0, 4, 12 and 13 the active
compare values become the buffers; bits 3 and 2 of TCCR1A apply the new actions to the latches, in modes 0, 4 and 12
only; bit 5 of TCCR1B is ignored. -/
def Obligations.ControlWriteOfTimer1 : Prop :=
  ∀ (d : Byte) (s : State),
    (∃ x : Timer1, exec (.wrTccr1a d) s = .next { s with t1 := x, shadow := false } ∧
      x.comA.toNat = d.toNat / 64 ∧ x.comB.toNat = d.toNat / 16 % 4 ∧
      x.wgm.toNat = 4 * (s.t1.wgm.toNat / 4) + d.toNat % 4 ∧
      x.ocA = (if d.toNat / 8 % 2 = 1 ∧ x.wgm ∈ [0#4, 4#4, 12#4] then actOn x.comA s.t1.ocA else s.t1.ocA) ∧
      x.ocB = (if d.toNat / 4 % 2 = 1 ∧ x.wgm ∈ [0#4, 4#4, 12#4] then actOn x.comB s.t1.ocB else s.t1.ocB) ∧
      x.cs = s.t1.cs ∧ x.icnc = s.t1.icnc ∧ x.ices = s.t1.ices ∧
      x.ocrAAct = (if x.wgm ∈ [0#4, 4#4, 12#4, 13#4] then s.t1.ocrABuf else s.t1.ocrAAct) ∧
      x.ocrBAct = (if x.wgm ∈ [0#4, 4#4, 12#4, 13#4] then s.t1.ocrBBuf else s.t1.ocrBAct) ∧
      x.tcnt = s.t1.tcnt ∧ x.ocrABuf = s.t1.ocrABuf ∧ x.ocrBBuf = s.t1.ocrBBuf ∧ x.icr = s.t1.icr ∧
      x.temp = s.t1.temp ∧ x.dir = s.t1.dir ∧ x.blk = s.t1.blk) ∧
    (∃ x : Timer1, exec (.wrTccr1b d) s = .next { s with t1 := x, shadow := false } ∧
      x.icnc = decide (128 ≤ d.toNat) ∧ x.ices = decide (d.toNat / 64 % 2 = 1) ∧
      x.wgm.toNat = 4 * (d.toNat / 8 % 4) + s.t1.wgm.toNat % 4 ∧ x.cs.toNat = d.toNat % 8 ∧
      x.comA = s.t1.comA ∧ x.comB = s.t1.comB ∧ x.ocA = s.t1.ocA ∧ x.ocB = s.t1.ocB ∧
      x.ocrAAct = (if x.wgm ∈ [0#4, 4#4, 12#4, 13#4] then s.t1.ocrABuf else s.t1.ocrAAct) ∧
      x.ocrBAct = (if x.wgm ∈ [0#4, 4#4, 12#4, 13#4] then s.t1.ocrBBuf else s.t1.ocrBAct) ∧
      x.tcnt = s.t1.tcnt ∧ x.ocrABuf = s.t1.ocrABuf ∧ x.ocrBBuf = s.t1.ocrBBuf ∧ x.icr = s.t1.icr ∧
      x.temp = s.t1.temp ∧ x.dir = s.t1.dir ∧ x.blk = s.t1.blk) ∧
    decode (writeWord 0x4F d) = some (.wrTccr1a d) ∧ decode (writeWord 0x4E d) = some (.wrTccr1b d)

/-- R180, R184, R188, R192: a write of a high byte loads TEMP1 and changes nothing else. R181, R185, R189, R193: a write
of a low byte stores TEMP1:d. A counter write sets the compare block; a compare register's active value follows in modes
0, 4, 12 and 13; ICR1 is written in modes 8, 10, 12 and 14 only. The words are R103's for the addresses of R104. -/
def Obligations.SixteenBitRegisterWrites : Prop :=
  ∀ (d : Byte) (s : State) (v : Half), v.toNat = 256 * s.t1.temp.toNat + d.toNat →
    (∀ i ∈ [Instr.wrTcnt1h d, .wrOcr1ah d, .wrOcr1bh d, .wrIcr1h d],
      exec i s = .next { s with t1 := { s.t1 with temp := d }, shadow := false }) ∧
    exec (.wrTcnt1l d) s = .next { s with t1 := { s.t1 with tcnt := v, blk := true }, shadow := false } ∧
    exec (.wrOcr1al d) s = .next { s with
      t1 := { s.t1 with
        ocrABuf := v
        ocrAAct := if s.t1.wgm ∈ [0#4, 4#4, 12#4, 13#4] then v else s.t1.ocrAAct }
      shadow := false } ∧
    exec (.wrOcr1bl d) s = .next { s with
      t1 := { s.t1 with
        ocrBBuf := v
        ocrBAct := if s.t1.wgm ∈ [0#4, 4#4, 12#4, 13#4] then v else s.t1.ocrBAct }
      shadow := false } ∧
    exec (.wrIcr1l d) s = .next { s with
      t1 := { s.t1 with icr := if s.t1.wgm ∈ [8#4, 10#4, 12#4, 14#4] then v else s.t1.icr }
      shadow := false } ∧
    ∀ p ∈ [(0x4D, Instr.wrTcnt1h d), (0x4C, .wrTcnt1l d), (0x4B, .wrOcr1ah d), (0x4A, .wrOcr1al d),
        (0x49, .wrOcr1bh d), (0x48, .wrOcr1bl d), (0x47, .wrIcr1h d), (0x46, .wrIcr1l d)],
      decode (writeWord p.1 d) = some p.2

/-- R201, R207, R211, R167: TIMSK takes the byte; a TIFR bit is cleared by writing 1 to it and by nothing else; SFIOR
stores bits 7:5, 3 and 2 and resets a prescaler for bit 0 or 1; ASSR is refused with bit 3 set and otherwise leaves
AS2 = 0. -/
def Obligations.MaskFlagAndPrescalerWrites : Prop :=
  ∀ (d : Byte) (s : State),
    exec (.wrTimsk d) s = .next { s with timsk := d, shadow := false } ∧
    (∃ f : Byte, exec (.wrTifr d) s = .next { s with tifr := f, shadow := false } ∧
      ∀ k < 8, f.getLsbD k = (s.tifr.getLsbD k && !d.getLsbD k)) ∧
    (∃ a : BitVec 3, a.toNat = d.toNat / 32 ∧
      exec (.wrSfior d) s = .next { s with
        adts := a
        acme := decide (d.toNat / 8 % 2 = 1)
        pud := decide (d.toNat / 4 % 2 = 1)
        p2 := if d.toNat / 2 % 2 = 1 then 0#10 else s.p2
        p01 := if d.toNat % 2 = 1 then 0#10 else s.p01
        shadow := false }) ∧
    exec (.wrAssr d) s =
      (if d.toNat / 8 % 2 = 1 then .refused (.asyncT2 d) else .next { s with as2 := false, shadow := false }) ∧
    ∀ p ∈ [(0x59, Instr.wrTimsk d), (0x58, .wrTifr d), (0x50, .wrSfior d), (0x42, .wrAssr d)],
      decode (writeWord p.1 d) = some p.2

/-- Reading a register back after writing it (R23 to R45): the byte written, without the strobe and reserved bits. The
high bytes of OCR1A and OCR1B are not here: their writes go to TEMP1, their reads do not. -/
def Obligations.WriteThenReadBack : Prop :=
  ∀ (s t : State) (d : Byte),
    (∀ r m, (r, m) ∈ [(Reg.tccr0, 0x7F#8), (.tcnt0, 0xFF#8), (.ocr0, 0xFF#8), (.tccr2, 0x7F#8), (.tcnt2, 0xFF#8),
        (.ocr2, 0xFF#8), (.assr, 0x00#8), (.tccr1a, 0xF3#8), (.tccr1b, 0xDF#8), (.tcnt1h, 0xFF#8), (.tcnt1l, 0xFF#8),
        (.ocr1al, 0xFF#8), (.ocr1bl, 0xFF#8), (.icr1h, 0xFF#8), (.timsk, 0xFF#8), (.sfior, 0xEC#8)] →
      exec (r.writeInstr d) s = .next t → t.readValue r = d &&& m) ∧
    (exec (.wrTifr d) s = .next t → t.readValue .tifr = s.tifr &&& ~~~d) ∧
    (exec (.wrIcr1l d) s = .next t →
      t.readValue .icr1l = if s.t1.wgm ∈ [8#4, 10#4, 12#4, 14#4] then d else s.readValue .icr1l)

/-- A write of one register leaves what every other register reads as, but that a high-byte write shows in the two
registers read from TEMP1, and a low-byte write of a compare register writes its high byte too. -/
def Obligations.WritesLeaveOtherRegisters : Prop :=
  ∀ (s t : State) (r r' : Reg) (d : Byte),
    exec (r.writeInstr d) s = .next t → r' ≠ r →
    ¬(r ∈ [Reg.tcnt1h, .ocr1ah, .ocr1bh, .icr1h] ∧ r' ∈ [Reg.tcnt1h, .icr1h]) →
    ¬(r = .ocr1al ∧ r' = .ocr1ah) → ¬(r = .ocr1bl ∧ r' = .ocr1bh) →
    t.readValue r' = s.readValue r'

/-! ### The clock and the pins (41_counter_unit.md) -/

/-- R235, R236, R237: a pin action sets the pin's level and nothing else. -/
def Obligations.PinActions : Prop :=
  ∀ (level : Bool) (s : State),
    exec (.pinT0 level) s = .next { s with t0Pin := level } ∧
    exec (.pinT1 level) s = .next { s with t1Pin := level } ∧
    exec (.pinIcp1 level) s = .next { s with icpPin := level } ∧
    decode (if level then 0x210000000001#48 else 0x210000000000#48) = some (.pinT0 level) ∧
    decode (if level then 0x220000000001#48 else 0x220000000000#48) = some (.pinT1 level) ∧
    decode (if level then 0x230000000001#48 else 0x230000000000#48) = some (.pinIcp1 level)

/-- R249: CLK completes exactly when no timer that ticks is in one of the refused states. -/
def Obligations.ClkCompletes : Prop :=
  ∀ s : State,
    (∃ t, exec .clk s = .next t) ↔
      (∀ n, s.ticks8 n = true → ¬(((s.timer8 n).wgm = 1#2 ∨ (s.timer8 n).wgm = 3#2) ∧ (s.timer8 n).com = 1#2)) ∧
      (tick1 s = true → s.t1.wgm ≠ 13#4 ∧
        (s.t1.wgm ∈ [1#4, 2#4, 3#4, 8#4, 9#4, 10#4, 11#4] → s.t1.tcnt.toNat ≤ s.t1.top.toNat) ∧
        (s.t1.wgm ∈ [8#4, 9#4, 10#4, 11#4, 14#4, 15#4] → 3 ≤ s.t1.top.toNat))

/-- R249, R406 to R409: in every state there is one list of codes, those of the timers that tick and of no other, each
with what it records; CLK completes if it is empty and is otherwise refused with all of it. -/
def Obligations.ClkRefusalCodes : Prop :=
  ∀ s : State,
    ∃ codes : List TickRefusal,
      (codes = [] → ∃ t, exec .clk s = .next t) ∧
      (codes ≠ [] → exec .clk s = .refused (.clockRefused codes)) ∧
      (.wgmReserved ∈ codes ↔ tick1 s = true ∧ s.t1.wgm = 13#4) ∧
      (∀ n, .comReserved n ∈ codes ↔
        s.ticks8 n = true ∧ ((s.timer8 n).wgm = 1#2 ∨ (s.timer8 n).wgm = 3#2) ∧ (s.timer8 n).com = 1#2) ∧
      (∀ n c top, .pwmAboveTop n c top ∈ codes ↔
        n = .t1 ∧ tick1 s = true ∧ s.t1.wgm ∈ [1#4, 2#4, 3#4, 8#4, 9#4, 10#4, 11#4] ∧
        c = s.t1.tcnt ∧ top = s.t1.top ∧ top.toNat < c.toNat) ∧
      (∀ top, .topTooSmall top ∈ codes ↔
        tick1 s = true ∧ s.t1.wgm ∈ [8#4, 9#4, 10#4, 11#4, 14#4, 15#4] ∧ top = s.t1.top ∧ top.toNat < 3)

/-- R230, R231, R234, R339: what every CLK does whatever the timers do: the prescalers count, the pins are sampled, no
flag is cleared, a timer that does not tick keeps its state (ICR1 apart, which a capture may load), and modes, clocks,
buffers, masks, slots, the CPU's ports and all that is in progress stay. -/
def Obligations.ClkFrame : Prop :=
  ∀ s t : State, exec .clk s = .next t →
    t.p01.toNat = (s.p01.toNat + 1) % 1024 ∧ t.p2.toNat = (s.p2.toNat + 1) % 1024 ∧
    t.t0Smp = s.t0Pin ∧ t.t1Smp = s.t1Pin ∧
    s.tifr &&& t.tifr = s.tifr ∧
    (∀ n, s.ticks8 n = false → t.timer8 n = s.timer8 n ∧ t.flag (delaySource n) = s.flag (delaySource n) ∧
      t.flag (cmpSource (timerOf8 n) .a) = s.flag (cmpSource (timerOf8 n) .a)) ∧
    (tick1 s = false → t.t1 = { s.t1 with icr := t.t1.icr } ∧
      ∀ src ∈ [Source.t1Ovf, .t1CompA, .t1CompB], t.flag src = s.flag src) ∧
    (∀ n, (t.timer8 n).wgm = (s.timer8 n).wgm ∧ (t.timer8 n).com = (s.timer8 n).com ∧
      (t.timer8 n).cs = (s.timer8 n).cs ∧ (t.timer8 n).ocrBuf = (s.timer8 n).ocrBuf) ∧
    t.t1.wgm = s.t1.wgm ∧ t.t1.comA = s.t1.comA ∧ t.t1.comB = s.t1.comB ∧ t.t1.cs = s.t1.cs ∧
    t.t1.icnc = s.t1.icnc ∧ t.t1.ices = s.t1.ices ∧ t.t1.ocrABuf = s.t1.ocrABuf ∧ t.t1.ocrBBuf = s.t1.ocrBBuf ∧
    t.t1.temp = s.t1.temp ∧
    t = { s with
      t0 := t.t0, t1 := t.t1, t2 := t.t2, p01 := t.p01, p2 := t.p2, t0Smp := t.t0Smp, t1Smp := t.t1Smp
      icpHist := t.icpHist, icpFilt := t.icpFilt, tifr := t.tifr }

/-- R233, R234: when each timer ticks: never with clock select 0; for a divisor N, when the prescaler after its
increment is a multiple of N (N = 1: always); for the pin codes of Timer0 and Timer1, on the sampled edge. -/
def Obligations.TickGeneration : Prop :=
  ∀ s : State,
    (∀ n, (s.timer8 n).cs = 0#3 → s.ticks8 n = false) ∧ (s.t1.cs = 0#3 → tick1 s = false) ∧
    (∀ n N, divisor8 n (s.timer8 n).cs.toNat = some N →
      (s.ticks8 n = true ↔ (s.prescaler8 n + 1) % 1024 % N = 0)) ∧
    (∀ N, divisor8 .t0 s.t1.cs.toNat = some N → (tick1 s = true ↔ (s.p01.toNat + 1) % 1024 % N = 0)) ∧
    (s.t0.cs = 6#3 → (s.ticks8 .t0 = true ↔ s.t0Smp = true ∧ s.t0Pin = false)) ∧
    (s.t0.cs = 7#3 → (s.ticks8 .t0 = true ↔ s.t0Smp = false ∧ s.t0Pin = true)) ∧
    (s.t1.cs = 6#3 → (tick1 s = true ↔ s.t1Smp = true ∧ s.t1Pin = false)) ∧
    (s.t1.cs = 7#3 → (tick1 s = true ↔ s.t1Smp = false ∧ s.t1Pin = true))

/-- R110, R111, R240: TOP in every mode that has one. -/
def Obligations.TopOfEveryMode : Prop :=
  (∀ t : Timer8, (t.wgm = 2#2 → t.top = t.ocrAct) ∧ (t.wgm ≠ 2#2 → t.top = 0xFF#8)) ∧
  ∀ t : Timer1,
    (t.wgm = 0#4 → t.top = 0xFFFF#16) ∧
    (t.wgm = 1#4 ∨ t.wgm = 5#4 → t.top = 0x00FF#16) ∧
    (t.wgm = 2#4 ∨ t.wgm = 6#4 → t.top = 0x01FF#16) ∧
    (t.wgm = 3#4 ∨ t.wgm = 7#4 → t.top = 0x03FF#16) ∧
    (t.wgm ∈ [4#4, 9#4, 11#4, 15#4] → t.top = t.ocrAAct) ∧
    (t.wgm ∈ [8#4, 10#4, 12#4, 14#4] → t.top = t.icr)

/-- R241, R244 to R247, R260: a tick of Timer0 or Timer2 in Normal mode (0) or CTC (2): the count, TOVn on leaving 0xFF,
OCFn and the output action on a match, no buffer update, the compare block cleared. -/
def Obligations.NormalAndCtcTickOfTimer8 : Prop :=
  ∀ (n : Timer8Id) (s t : State), exec .clk s = .next t → s.ticks8 n = true →
    ((s.timer8 n).wgm = 0#2 → (t.timer8 n).tcnt.toNat = ((s.timer8 n).tcnt.toNat + 1) % 256) ∧
    ((s.timer8 n).wgm = 2#2 → (t.timer8 n).tcnt.toNat =
      if (s.timer8 n).tcnt = (s.timer8 n).ocrAct then 0 else ((s.timer8 n).tcnt.toNat + 1) % 256) ∧
    ((s.timer8 n).wgm = 0#2 ∨ (s.timer8 n).wgm = 2#2 →
      t.flag (delaySource n) = (s.flag (delaySource n) || (s.timer8 n).tcnt == 0xFF#8) ∧
      t.flag (cmpSource (timerOf8 n) .a) = (s.flag (cmpSource (timerOf8 n) .a) ||
        (!(s.timer8 n).blk && (s.timer8 n).tcnt == (s.timer8 n).ocrAct)) ∧
      (t.timer8 n).oc =
        (if (s.timer8 n).blk = false ∧ (s.timer8 n).tcnt = (s.timer8 n).ocrAct
         then actOn (s.timer8 n).com (s.timer8 n).oc else (s.timer8 n).oc) ∧
      (t.timer8 n).dir = (s.timer8 n).dir ∧ (t.timer8 n).ocrAct = (s.timer8 n).ocrAct ∧ (t.timer8 n).blk = false)

/-- R243, R250, R261: a tick of Timer0 or Timer2 in Fast PWM (3). At 0xFF the counter wraps, TOVn is set, the active
compare value is loaded from the buffer, and the output takes its BOTTOM level after any match action. -/
def Obligations.FastPwmTickOfTimer8 : Prop :=
  ∀ (n : Timer8Id) (s t : State), exec .clk s = .next t → s.ticks8 n = true → (s.timer8 n).wgm = 3#2 →
    (t.timer8 n).tcnt.toNat = (if (s.timer8 n).tcnt = 0xFF#8 then 0 else (s.timer8 n).tcnt.toNat + 1) ∧
    (t.timer8 n).dir = (s.timer8 n).dir ∧
    t.flag (delaySource n) = (s.flag (delaySource n) || (s.timer8 n).tcnt == 0xFF#8) ∧
    t.flag (cmpSource (timerOf8 n) .a) = (s.flag (cmpSource (timerOf8 n) .a) ||
      (!(s.timer8 n).blk && (s.timer8 n).tcnt == (s.timer8 n).ocrAct)) ∧
    (s.timer8 n).com ≠ 1#2 ∧
    ((s.timer8 n).com = 0#2 → (t.timer8 n).oc = (s.timer8 n).oc) ∧
    ((s.timer8 n).com = 2#2 → (t.timer8 n).oc =
      if (s.timer8 n).tcnt = 0xFF#8 then true
      else if (s.timer8 n).blk = false ∧ (s.timer8 n).tcnt = (s.timer8 n).ocrAct then false else (s.timer8 n).oc) ∧
    ((s.timer8 n).com = 3#2 → (t.timer8 n).oc =
      if (s.timer8 n).tcnt = 0xFF#8 then false
      else if (s.timer8 n).blk = false ∧ (s.timer8 n).tcnt = (s.timer8 n).ocrAct then true else (s.timer8 n).oc) ∧
    (t.timer8 n).ocrAct =
      (if (s.timer8 n).tcnt = 0xFF#8 then (s.timer8 n).ocrBuf else (s.timer8 n).ocrAct) ∧
    (t.timer8 n).blk = false

/-- R242, R250, R263: a tick of Timer0 or Timer2 in phase-correct PWM (1): up to 0xFF, then down to 0, TOVn on leaving 0
while counting down, the buffer loaded on leaving 0xFF while counting up, the match action by the direction the count
moves in. -/
def Obligations.PhaseCorrectTickOfTimer8 : Prop :=
  ∀ (n : Timer8Id) (s t : State), exec .clk s = .next t → s.ticks8 n = true → (s.timer8 n).wgm = 1#2 →
    ((s.timer8 n).dir = .up → (s.timer8 n).tcnt = 0xFF#8 →
      (t.timer8 n).tcnt = 0xFE#8 ∧ (t.timer8 n).dir = .down ∧ (t.timer8 n).ocrAct = (s.timer8 n).ocrBuf) ∧
    ((s.timer8 n).dir = .up → (s.timer8 n).tcnt ≠ 0xFF#8 →
      (t.timer8 n).tcnt.toNat = (s.timer8 n).tcnt.toNat + 1 ∧ (t.timer8 n).dir = .up ∧
      (t.timer8 n).ocrAct = (s.timer8 n).ocrAct) ∧
    ((s.timer8 n).dir = .down → (s.timer8 n).tcnt = 0#8 →
      (t.timer8 n).tcnt = 1#8 ∧ (t.timer8 n).dir = .up ∧ (t.timer8 n).ocrAct = (s.timer8 n).ocrAct) ∧
    ((s.timer8 n).dir = .down → (s.timer8 n).tcnt ≠ 0#8 →
      (t.timer8 n).tcnt.toNat = (s.timer8 n).tcnt.toNat - 1 ∧ (t.timer8 n).dir = .down ∧
      (t.timer8 n).ocrAct = (s.timer8 n).ocrAct) ∧
    t.flag (delaySource n) =
      (s.flag (delaySource n) || ((s.timer8 n).dir == .down && (s.timer8 n).tcnt == 0#8)) ∧
    t.flag (cmpSource (timerOf8 n) .a) = (s.flag (cmpSource (timerOf8 n) .a) ||
      (!(s.timer8 n).blk && (s.timer8 n).tcnt == (s.timer8 n).ocrAct)) ∧
    (s.timer8 n).com ≠ 1#2 ∧
    ((s.timer8 n).blk = true ∨ (s.timer8 n).tcnt ≠ (s.timer8 n).ocrAct ∨ (s.timer8 n).com = 0#2 →
      (t.timer8 n).oc = (s.timer8 n).oc) ∧
    ((s.timer8 n).blk = false → (s.timer8 n).tcnt = (s.timer8 n).ocrAct →
      ((s.timer8 n).com = 2#2 → (t.timer8 n).oc = decide ((t.timer8 n).tcnt.toNat < (s.timer8 n).tcnt.toNat)) ∧
      ((s.timer8 n).com = 3#2 → (t.timer8 n).oc = decide ((s.timer8 n).tcnt.toNat < (t.timer8 n).tcnt.toNat))) ∧
    (t.timer8 n).blk = false

/-- R241, R244 to R248, R260: a tick of Timer1 in Normal mode (0) or CTC (4 and 12), with ICF1 at TOP in mode 12. -/
def Obligations.NormalAndCtcTickOfTimer1 : Prop :=
  ∀ s t : State, exec .clk s = .next t → tick1 s = true → s.t1.wgm ∈ [0#4, 4#4, 12#4] →
    (s.t1.wgm = 0#4 → t.t1.tcnt.toNat = (s.t1.tcnt.toNat + 1) % 65536) ∧
    (s.t1.wgm ≠ 0#4 → t.t1.tcnt.toNat =
      if s.t1.tcnt = s.t1.top then 0 else (s.t1.tcnt.toNat + 1) % 65536) ∧
    t.flag .t1Ovf = (s.flag .t1Ovf || s.t1.tcnt == 0xFFFF#16) ∧
    t.flag .t1CompA = (s.flag .t1CompA || (!s.t1.blk && s.t1.tcnt == s.t1.ocrAAct)) ∧
    t.flag .t1CompB = (s.flag .t1CompB || (!s.t1.blk && s.t1.tcnt == s.t1.ocrBAct)) ∧
    (s.t1.wgm = 12#4 → t.flag .t1Capt = (s.flag .t1Capt || s.t1.tcnt == s.t1.icr)) ∧
    t.t1.ocA = (if s.t1.blk = false ∧ s.t1.tcnt = s.t1.ocrAAct then actOn s.t1.comA s.t1.ocA else s.t1.ocA) ∧
    t.t1.ocB = (if s.t1.blk = false ∧ s.t1.tcnt = s.t1.ocrBAct then actOn s.t1.comB s.t1.ocB else s.t1.ocB) ∧
    t.t1.dir = s.t1.dir ∧ t.t1.ocrAAct = s.t1.ocrAAct ∧ t.t1.ocrBAct = s.t1.ocrBAct ∧ t.t1.blk = false

/-- R243, R248, R250, R261, R264: a tick of Timer1 in a Fast PWM mode (5, 6, 7, 14, 15). The counter wraps at TOP, and
at 0xFFFF when it is above TOP; COM1A = 01 toggles in mode 15 only, COM1B = 01 never acts. -/
def Obligations.FastPwmTickOfTimer1 : Prop :=
  ∀ s t : State, exec .clk s = .next t → tick1 s = true → s.t1.wgm ∈ [5#4, 6#4, 7#4, 14#4, 15#4] →
    ∀ wrap : Bool, wrap = (s.t1.tcnt == s.t1.top || s.t1.tcnt == 0xFFFF#16) →
    ∀ mA mB : Bool, mA = (!s.t1.blk && s.t1.tcnt == s.t1.ocrAAct) → mB = (!s.t1.blk && s.t1.tcnt == s.t1.ocrBAct) →
    t.t1.tcnt.toNat = (if wrap then 0 else s.t1.tcnt.toNat + 1) ∧
    t.t1.dir = s.t1.dir ∧ t.t1.blk = false ∧
    t.flag .t1Ovf = (s.flag .t1Ovf || wrap) ∧
    t.flag .t1CompA = (s.flag .t1CompA || mA) ∧ t.flag .t1CompB = (s.flag .t1CompB || mB) ∧
    (s.t1.wgm = 14#4 → t.flag .t1Capt = (s.flag .t1Capt || s.t1.tcnt == s.t1.icr)) ∧
    t.t1.ocrAAct = (if wrap then s.t1.ocrABuf else s.t1.ocrAAct) ∧
    t.t1.ocrBAct = (if wrap then s.t1.ocrBBuf else s.t1.ocrBAct) ∧
    t.t1.ocA = (if s.t1.comA = 2#2 then (wrap || (s.t1.ocA && !mA))
      else if s.t1.comA = 3#2 then (!wrap && (s.t1.ocA || mA))
      else if s.t1.comA = 1#2 ∧ s.t1.wgm = 15#4 then (s.t1.ocA ^^ mA) else s.t1.ocA) ∧
    t.t1.ocB = (if s.t1.comB = 2#2 then (wrap || (s.t1.ocB && !mB))
      else if s.t1.comB = 3#2 then (!wrap && (s.t1.ocB || mB)) else s.t1.ocB)

/-- R242, R248, R250, R263, R264: a tick of Timer1 in a phase-correct (1, 2, 3, 10, 11) or phase-and-frequency-correct
(8, 9) mode. The buffers are loaded at TOP in the first and at BOTTOM in the second; COM1A = 01 toggles in modes 9 and
11 only. -/
def Obligations.DualSlopeTickOfTimer1 : Prop :=
  ∀ s t : State, exec .clk s = .next t → tick1 s = true → s.t1.wgm ∈ [1#4, 2#4, 3#4, 8#4, 9#4, 10#4, 11#4] →
    ∀ atTop atBottom up load : Bool,
      atTop = (s.t1.dir == .up && s.t1.tcnt == s.t1.top) → atBottom = (s.t1.dir == .down && s.t1.tcnt == 0#16) →
      up = ((s.t1.dir == .up && !atTop) || atBottom) →
      load = (if s.t1.wgm = 8#4 ∨ s.t1.wgm = 9#4 then atBottom else atTop) →
    ∀ mA mB : Bool, mA = (!s.t1.blk && s.t1.tcnt == s.t1.ocrAAct) → mB = (!s.t1.blk && s.t1.tcnt == s.t1.ocrBAct) →
    s.t1.tcnt.toNat ≤ s.t1.top.toNat ∧
    t.t1.tcnt.toNat = (if up then s.t1.tcnt.toNat + 1 else s.t1.tcnt.toNat - 1) ∧
    t.t1.dir = (if up then .up else .down) ∧ t.t1.blk = false ∧
    t.flag .t1Ovf = (s.flag .t1Ovf || atBottom) ∧
    t.flag .t1CompA = (s.flag .t1CompA || mA) ∧ t.flag .t1CompB = (s.flag .t1CompB || mB) ∧
    (s.t1.wgm = 8#4 ∨ s.t1.wgm = 10#4 → t.flag .t1Capt = (s.flag .t1Capt || atTop)) ∧
    t.t1.ocrAAct = (if load then s.t1.ocrABuf else s.t1.ocrAAct) ∧
    t.t1.ocrBAct = (if load then s.t1.ocrBBuf else s.t1.ocrBAct) ∧
    t.t1.ocA = (if mA = false ∨ s.t1.comA = 0#2 then s.t1.ocA
      else if s.t1.comA = 2#2 then !up else if s.t1.comA = 3#2 then up
      else if s.t1.wgm = 9#4 ∨ s.t1.wgm = 11#4 then !s.t1.ocA else s.t1.ocA) ∧
    t.t1.ocB = (if mB = false ∨ s.t1.comB = 0#2 ∨ s.t1.comB = 1#2 then s.t1.ocB
      else if s.t1.comB = 2#2 then !up else up)

/-- R270, R271, R272: the front end of ICP1 in every CLK, and the capture of the count before the CLK's step, on the
edge ICES1 selects and only where ICR1 is not TOP: there no edge writes ICR1, and with no tick of Timer1 nothing sets
ICF1. -/
def Obligations.InputCapture : Prop :=
  ∀ s t : State, exec .clk s = .next t →
    ∀ new : Bool,
      (s.t1.icnc = false → new = s.icpPin) →
      (s.t1.icnc = true → new = if s.icpHist.s1 = s.icpPin ∧ s.icpHist.s2 = s.icpPin ∧ s.icpHist.s3 = s.icpPin
        then s.icpPin else s.icpFilt) →
    t.icpHist = ⟨s.icpHist.s1, s.icpHist.s2, s.icpHist.s3, s.icpPin⟩ ∧ t.icpFilt = new ∧
    (s.icpFilt ≠ new ∧ s.t1.ices = new ∧ s.t1.wgm ∉ [8#4, 10#4, 12#4, 14#4] →
      t.t1.icr = s.t1.tcnt ∧ t.flag .t1Capt = true) ∧
    (s.icpFilt = new ∨ s.t1.ices ≠ new ∨ s.t1.wgm ∈ [8#4, 10#4, 12#4, 14#4] →
      t.t1.icr = s.t1.icr ∧ (s.t1.wgm ∉ [8#4, 10#4, 12#4, 14#4] → t.flag .t1Capt = s.flag .t1Capt)) ∧
    (s.t1.wgm ∈ [8#4, 10#4, 12#4, 14#4] → tick1 s = false → t.flag .t1Capt = s.flag .t1Capt)

/-- R271: with the noise canceller on, a level that differs from four equal samples is seen at the fourth CLK that
samples it; a pulse shorter than four CLKs is not seen at all. -/
def Obligations.NoiseCanceller : Prop :=
  ∀ (s t : State) (v : Bool) (k : Nat),
    s.t1.icnc = true → s.icpHist = ⟨v, v, v, v⟩ → s.icpFilt = v → s.icpPin = !v → clocks k s = .next t →
    (t.icpFilt = if k < 4 then v else !v) ∧
    (k < 4 → ∀ (j : Nat) (u u' : State), exec (.pinIcp1 v) t = .next u → clocks j u = .next u' → u'.icpFilt = v)

/-! ### Timing in CLKs (R251, R471) -/

/-- R233, R241, R247, R471: Timer0 or Timer2 alone, in Normal mode on divisor N: k CLKs complete, and give as many ticks
as the prescaler passes multiples of N, whatever its phase at the start; the overflow flag is set within them exactly
when the count passes 0xFF. -/
def Obligations.PrescaledCountAndOverflow : Prop :=
  ∀ (n : Timer8Id) (N k ticks : Nat) (s : State),
    (s.timer8 n).wgm = 0#2 → s.onlyTimer8Runs n → divisor8 n (s.timer8 n).cs.toNat = some N →
    ticks = (s.prescaler8 n + k) / N - s.prescaler8 n / N →
    ∃ t, clocks k s = .next t ∧
      (t.timer8 n).tcnt.toNat = ((s.timer8 n).tcnt.toNat + ticks) % 256 ∧
      t.flag (delaySource n) = (s.flag (delaySource n) || decide (256 ≤ (s.timer8 n).tcnt.toNat + ticks))

/-- R241, R251: Timer0 or Timer2 alone, in CTC at clk_io/1 and not above TOP: the count has period TOP + 1, and unless
TOP is 0xFF the overflow flag is never set. -/
def Obligations.CtcPeriod : Prop :=
  ∀ (n : Timer8Id) (k : Nat) (s : State),
    (s.timer8 n).wgm = 2#2 → (s.timer8 n).cs = 1#3 → s.onlyTimer8Runs n →
    (s.timer8 n).tcnt.toNat ≤ (s.timer8 n).ocrAct.toNat →
    ∃ t, clocks k s = .next t ∧
      (t.timer8 n).tcnt.toNat = ((s.timer8 n).tcnt.toNat + k) % ((s.timer8 n).ocrAct.toNat + 1) ∧
      ((s.timer8 n).ocrAct ≠ 0xFF#8 → t.flag (delaySource n) = s.flag (delaySource n))

/-- R261: Timer0 or Timer2 alone, in non-inverting Fast PWM at clk_io/1 with compare value q: from a BOTTOM with the
output high, the output is high in the first q + 1 of the 256 CLKs and low in the rest, and high again at the next
BOTTOM. -/
def Obligations.FastPwmHighTime : Prop :=
  ∀ (n : Timer8Id) (k : Nat) (s : State),
    (s.timer8 n).wgm = 3#2 → (s.timer8 n).com = 2#2 → (s.timer8 n).cs = 1#3 → s.onlyTimer8Runs n →
    (s.timer8 n).tcnt = 0#8 → (s.timer8 n).blk = false → (s.timer8 n).oc = true →
    (s.timer8 n).ocrAct = (s.timer8 n).ocrBuf →
    ∃ t, clocks k s = .next t ∧
      (t.timer8 n).oc = decide (k % 256 ≤ (s.timer8 n).ocrAct.toNat) ∧ (t.timer8 n).tcnt.toNat = k % 256

/-- R262, R264: when a compare unit drives its pin, and with what: its latch, but for COM = 00, and for COM = 01 in a
PWM mode that is no toggle case. The reserved COM = 01 of Timer0 and Timer2 in a PWM mode is left out: R265 leaves its
drive open. -/
def Obligations.OutputDrive : Prop :=
  ∀ s : State,
    (s.t0.com ≠ 1#2 ∨ s.t0.wgm = 0#2 ∨ s.t0.wgm = 2#2 →
      s.outputPin .oc0 = if s.t0.com = 0#2 then none else some s.t0.oc) ∧
    (s.t2.com ≠ 1#2 ∨ s.t2.wgm = 0#2 ∨ s.t2.wgm = 2#2 →
      s.outputPin .oc2 = if s.t2.com = 0#2 then none else some s.t2.oc) ∧
    s.outputPin .oc1a =
      (if s.t1.comA = 0#2 ∨ (s.t1.comA = 1#2 ∧ s.t1.wgm ∈ [1#4, 2#4, 3#4, 5#4, 6#4, 7#4, 8#4, 10#4, 14#4])
       then none else some s.t1.ocA) ∧
    s.outputPin .oc1b =
      (if s.t1.comB = 0#2 ∨ (s.t1.comB = 1#2 ∧ s.t1.wgm ∉ [0#4, 4#4, 12#4, 13#4])
       then none else some s.t1.ocB)

/-! ### Interrupts (44_interrupt_dispatch.md) -/

/-- R339: the shadow after an action that completes: set by SEI and RETI, kept by ACCEPT, CLK and the pins, cleared by
every other action; and the same for the actions of an operation in progress. -/
def Obligations.ShadowRule : Prop :=
  (∀ (i : Instr) (s t : State), exec i s = .next t →
    t.shadow = if i = .sei ∨ i = .reti then true
      else if i = .accept ∨ i.isEnvironment = true then s.shadow else false) ∧
  ∀ (m : Micro) (s t : State), microStep m s = .next t →
    ((m = .sei ∨ m = .reti ∨ ∃ v, m = .getTimer1Ret v) → t.shadow = true ∧ t.gie = true) ∧
    (¬(m = .sei ∨ m = .reti ∨ ∃ v, m = .getTimer1Ret v) → t.shadow = false ∧ (t.gie = true → s.gie = true))

/-- R335, R337: SEI sets GIE and the shadow, CLI clears GIE, and neither changes anything else. -/
def Obligations.SeiAndCli : Prop :=
  ∀ s : State,
    exec .sei s = .next { s with gie := true, shadow := true } ∧
    exec .cli s = .next { s with gie := false, shadow := false } ∧
    decode 0x300000000000#48 = some .sei ∧ decode 0x310000000000#48 = some .cli

/-- R333, R340: ACCEPT where it is enabled takes the pending source with the lowest vector address: it clears that flag
and GIE, pushes the source, presents the vector, and the CPU actions that follow are the source's handler (R344); the
shadow and everything else stay. The table of vectors and flag bits is R340's and R60's. -/
def Obligations.AcceptTakesHighestPriority : Prop :=
  (∀ s : State, s.acceptEnabled = true → ∃ src,
    s.tifr.getLsbD (sourceBit src) = true ∧ s.timsk.getLsbD (sourceBit src) = true ∧
    (∀ o, s.tifr.getLsbD (sourceBit o) = true → s.timsk.getLsbD (sourceBit o) = true →
      (vectorOf src).toNat ≤ (vectorOf o).toNat) ∧
    exec .accept s = .next { s with
      tifr := s.tifr &&& ~~~(1#8 <<< sourceBit src)
      gie := false
      isr := src :: s.isr
      vector := vectorOf src
      pending := [.cli, .invoke src, .wr .tifr (1#8 <<< sourceBit src), .sei, .reti] ++ s.pending }) ∧
  [Source.t2Comp, .t2Ovf, .t1Capt, .t1CompA, .t1CompB, .t1Ovf, .t0Comp, .t0Ovf].map (fun src =>
      (sourceBit src, (vectorOf src).toNat)) =
    [(7, 0x008), (6, 0x00A), (5, 0x00C), (4, 0x00E), (3, 0x010), (2, 0x012), (1, 0x014), (0, 0x016)] ∧
  decode 0x320000000000#48 = some .accept

/-- The model's choice (log 9): an ACCEPT that R332 does not enable is refused by name, since no run has that step. -/
def Obligations.AcceptNotEnabledIsRefused : Prop :=
  ∀ s : State, exec .accept s = .refused .acceptNotEnabled ↔ s.acceptEnabled = false

/-- R334, R412: RETI pops the innermost accepted source, sets GIE and the shadow; with none outstanding it is refused. -/
def Obligations.RetiReturns : Prop :=
  ∀ s : State,
    (s.isr = [] → exec .reti s = .refused .retiUnmatched) ∧
    (∀ src rest, s.isr = src :: rest →
      exec .reti s = .next { s with isr := rest, gie := true, shadow := true }) ∧
    decode 0x330000000000#48 = some .reti

/-- R336, R338, R405: SLOT_STORE replaces one slot, the null id changes nothing; INVOKE of an empty slot faults, and of
a registered one completes with the callback's body as the CPU actions that follow; no body holds a RETI. -/
def Obligations.CallbackSlots : Prop :=
  ∀ (src : Source) (s : State),
    exec (.slotStore src 0#16) s = .next { s with shadow := false } ∧
    (∀ cb, cb ≠ 0#16 → ∃ sl, exec (.slotStore src cb) s = .next { s with slots := sl, shadow := false } ∧
      slotOf sl src = some cb ∧ ∀ o, o ≠ src → slotOf sl o = slotOf s.slots o) ∧
    (slotOf s.slots src = none → exec (.invoke src) s = .fault (.callbackEmpty src)) ∧
    (∀ cb, slotOf s.slots src = some cb →
      exec (.invoke src) s = .next { s with pending := bodyMicros cb ++ s.pending, shadow := false }) ∧
    ∀ cb, Micro.reti ∉ bodyMicros cb

/-- R341, R342: DISPATCH does CLI, then INVOKE; behind the callback's body wait the one-hot clear of the flag and SEI,
and in a handler RETI. Those last actions clear that flag and no other, set GIE, and leave the shadow set, so that no
ACCEPT comes between SEI and RETI, and the interrupted operation goes on. -/
def Obligations.DispatchAndHandler : Prop :=
  ∀ (src : Source) (s : State),
    exec (.dispatch src) s = .next { s with
      gie := false
      shadow := false
      pending := [.invoke src, .wr .tifr (1#8 <<< sourceBit src), .sei] ++ s.pending } ∧
    (∀ cb, Ready s → slotOf s.slots src = some cb →
      runSteps 2 (s.calling (.dispatch src)) = .next { s with
        gie := false
        shadow := false
        pending := bodyMicros cb ++ [.wr .tifr (1#8 <<< sourceBit src), .sei]
        input := [] }) ∧
    (∀ ms, s.faults = [] → s.refusals = [] → s.gie = false → s.input = [] →
      s.pending = [.wr .tifr (1#8 <<< sourceBit src), .sei] ++ ms →
      runSteps 2 s = .next { s with
        tifr := s.tifr &&& ~~~(1#8 <<< sourceBit src), gie := true, shadow := true, pending := ms }) ∧
    (∀ o rest ms, s.faults = [] → s.refusals = [] → s.gie = false → s.input = [] → s.isr = o :: rest →
      s.pending = [.wr .tifr (1#8 <<< sourceBit src), .sei, .reti] ++ ms →
      runSteps 3 s = .next { s with
        tifr := s.tifr &&& ~~~(1#8 <<< sourceBit src), gie := true, shadow := true, isr := rest, pending := ms })

/-- Which action may change what, over all actions issued (exec) and all actions of operations, bodies and handlers in
progress (microStep) (R40, R43, R44, R61, R62, R64): the mask is changed by its write only; slots by SLOT_STORE with a
non-null id; accepted sources by ACCEPT and RETI; GIE becomes 1 by SEI and RETI only (the SEI that ends GET_TIMER among
them); a flag becomes 1 by CLK only and 0 by ACCEPT and a write of TIFR; a prescaler changes by CLK and by a write of
SFIOR with its bit; AS2 never becomes 1; no action changes what is issued or recorded. An action in progress moreover
changes Timer0 or Timer2 by a write of that timer's registers only, and no pin, sample or capture filter. -/
def Obligations.WhatEachActionMayChange : Prop :=
  (∀ (i : Instr) (s t : State), exec i s = .next t →
    (t.timsk ≠ s.timsk → ∃ d, i = .wrTimsk d) ∧
    (t.slots ≠ s.slots → ∃ src cb, i = .slotStore src cb ∧ cb ≠ 0#16) ∧
    (t.isr ≠ s.isr → i = .accept ∨ i = .reti) ∧
    (t.gie = true → s.gie = true ∨ i = .sei ∨ i = .reti) ∧
    (∀ src, t.flag src = true → s.flag src = true ∨ i = .clk) ∧
    (∀ src, s.flag src = true → t.flag src = true ∨ i = .accept ∨ ∃ d, i = .wrTifr d) ∧
    (t.p01 ≠ s.p01 → i = .clk ∨ ∃ d, i = .wrSfior d ∧ d.getLsbD 0 = true) ∧
    (t.p2 ≠ s.p2 → i = .clk ∨ ∃ d, i = .wrSfior d ∧ d.getLsbD 1 = true) ∧
    (t.as2 = true → s.as2 = true) ∧
    t.input = s.input ∧ t.faults = s.faults ∧ t.refusals = s.refusals) ∧
  ∀ (m : Micro) (s t : State), microStep m s = .next t →
    (t.timsk ≠ s.timsk → ∃ d, m = .wr .timsk d) ∧
    (t.slots ≠ s.slots → ∃ src cb, m = .slotStore src cb ∧ cb ≠ 0#16) ∧
    (t.isr ≠ s.isr → m = .reti) ∧
    (t.gie = true → s.gie = true ∨ m = .sei ∨ m = .reti ∨ ∃ v, m = .getTimer1Ret v) ∧
    (∀ src, t.flag src = true → s.flag src = true) ∧
    (∀ src, s.flag src = true → t.flag src = true ∨ ∃ d, m = .wr .tifr d ∧ d.getLsbD (sourceBit src) = true) ∧
    (t.p01 ≠ s.p01 → ∃ d, m = .wr .sfior d ∧ d.getLsbD 0 = true) ∧
    (t.p2 ≠ s.p2 → ∃ d, m = .wr .sfior d ∧ d.getLsbD 1 = true) ∧
    (t.t0 ≠ s.t0 → ∃ r d, m = .wr r d ∧ r ∈ [Reg.tccr0, .tcnt0, .ocr0]) ∧
    (t.t2 ≠ s.t2 → ∃ r d, m = .wr r d ∧ r ∈ [Reg.tccr2, .tcnt2, .ocr2]) ∧
    (t.as2 = true → s.as2 = true) ∧
    t.input = s.input ∧ t.faults = s.faults ∧ t.refusals = s.refusals ∧ t.vector = s.vector ∧
    t.t0Pin = s.t0Pin ∧ t.t1Pin = s.t1Pin ∧ t.t0Smp = s.t0Smp ∧ t.t1Smp = s.t1Smp ∧
    t.icpPin = s.icpPin ∧ t.icpHist = s.icpHist ∧ t.icpFilt = s.icpFilt

/-! ### Driver calls (42_driver_config.md to 45_pwm.md) -/

/-- R301, R303: INIT on Timer0 or Timer2, run with no other agent acting: the counter takes COUNT and the compare block;
each of clock, mode and action is written if its value is in its enumeration, the action only if it is valid in the mode
then in the register; nothing else of the block changes. -/
def Obligations.InitOfTimer8 : Prop :=
  ∀ (n : Timer8Id) (count : Half) (mode clksel comact : BitVec 4) (s : State),
    count.toNat ≤ 255 →
    (∃ (d : Byte) (ms : List Micro), d.toNat = count.toNat ∧
      exec (.init (timerOf8 n) .a count mode clksel comact) s =
        .next { s.withTimer8 n { s.timer8 n with tcnt := d, blk := true } with
          shadow := false, pending := ms ++ s.pending }) ∧
    (Ready s → CompareFollows s → ∃ k t x,
      runSteps k (s.calling (.init (timerOf8 n) .a count mode clksel comact)) = .next t ∧
      t = { s.withTimer8 n x with rdata := t.rdata, shadow := false, input := [] } ∧
      x.tcnt.toNat = count.toNat ∧ x.blk = true ∧
      x.cs.toNat = (if clksel.toNat ≤ 7 then clksel.toNat else (s.timer8 n).cs.toNat) ∧
      x.wgm.toNat = (if mode.toNat ≤ 3 then mode.toNat else (s.timer8 n).wgm.toNat) ∧
      x.com.toNat = (if comact.toNat ≤ 3 ∧ (comact = 1#4 → x.wgm = 0#2 ∨ x.wgm = 2#2) then comact.toNat
        else (s.timer8 n).com.toNat) ∧
      x.ocrAct = (if x.wgm = 0#2 ∨ x.wgm = 2#2 then (s.timer8 n).ocrBuf else (s.timer8 n).ocrAct) ∧
      x.ocrBuf = (s.timer8 n).ocrBuf ∧ x.dir = (s.timer8 n).dir ∧ x.oc = (s.timer8 n).oc)

/-- R302, R303: INIT on Timer1 and unit A or B, run with no other agent acting. The mode goes through the mode made of
its new low bits and the old high bits (R455), so the active compare values are loaded if that mode or the new one is
not buffered. -/
def Obligations.InitOfTimer1 : Prop :=
  ∀ (u : CmpUnit) (count : Half) (mode clksel comact mid : BitVec 4) (s : State),
    mid.toNat = 4 * (s.t1.wgm.toNat / 4) + mode.toNat % 4 →
    (∃ (h : Byte) (ms : List Micro), h.toNat = count.toNat / 256 ∧
      exec (.init .t1 u count mode clksel comact) s =
        .next { s with t1 := { s.t1 with temp := h }, shadow := false, pending := ms ++ s.pending }) ∧
    (Ready s → CompareFollows s → ∃ k t x,
      runSteps k (s.calling (.init .t1 u count mode clksel comact)) = .next t ∧
      t = { s with t1 := x, rdata := t.rdata, shadow := false, input := [] } ∧
      x.tcnt = count ∧ x.blk = true ∧ x.temp.toNat = count.toNat / 256 ∧
      x.cs.toNat = (if clksel.toNat ≤ 7 then clksel.toNat else s.t1.cs.toNat) ∧
      x.wgm = (if mode ≠ 13#4 then mode else s.t1.wgm) ∧
      x.comA.toNat = (if u = .a ∧ comact.toNat ≤ 3 ∧ (comact = 1#4 → x.wgm ∈ [0#4, 4#4, 12#4]) then comact.toNat
        else s.t1.comA.toNat) ∧
      x.comB.toNat = (if u = .b ∧ comact.toNat ≤ 3 ∧ (comact = 1#4 → x.wgm ∈ [0#4, 4#4, 12#4]) then comact.toNat
        else s.t1.comB.toNat) ∧
      (mode ≠ 13#4 ∧ (mid ∈ [0#4, 4#4, 12#4, 13#4] ∨ mode ∈ [0#4, 4#4, 12#4, 13#4]) →
        x.ocrAAct = s.t1.ocrABuf ∧ x.ocrBAct = s.t1.ocrBBuf) ∧
      (mode = 13#4 ∨ (mid ∉ [0#4, 4#4, 12#4, 13#4] ∧ mode ∉ [0#4, 4#4, 12#4, 13#4]) →
        x.ocrAAct = s.t1.ocrAAct ∧ x.ocrBAct = s.t1.ocrBAct) ∧
      x.ocrABuf = s.t1.ocrABuf ∧ x.ocrBBuf = s.t1.ocrBBuf ∧ x.icr = s.t1.icr ∧ x.dir = s.t1.dir ∧
      x.icnc = s.t1.icnc ∧ x.ices = s.t1.ices ∧ x.ocA = s.t1.ocA ∧ x.ocB = s.t1.ocB)

/-- R304: DISABLE, run with no other agent acting: the clock stops and every compare unit of the timer is disconnected;
the count, the mode and everything else stay. -/
def Obligations.DisableStopsTheTimer : Prop :=
  ∀ s : State,
    (∀ n, ∃ ms, exec (.disable (timerOf8 n)) s =
      .next { s with rdata := s.readValue (tccrOf n), shadow := false, pending := ms ++ s.pending }) ∧
    (∃ ms, exec (.disable .t1) s =
      .next { s with rdata := s.readValue .tccr1b, shadow := false, pending := ms ++ s.pending }) ∧
    (Ready s → CompareFollows s →
      (∀ n, ∃ t, runSteps 4 (s.calling (.disable (timerOf8 n))) = .next t ∧
        t = { s.withTimer8 n { s.timer8 n with cs := 0#3, com := 0#2 } with
          rdata := t.rdata, shadow := false, input := [] }) ∧
      (∃ t, runSteps 4 (s.calling (.disable .t1)) = .next t ∧
        t = { s with
          t1 := { s.t1 with cs := 0#3, comA := 0#2, comB := 0#2 }
          rdata := t.rdata, shadow := false, input := [] }))

/-- R305, R306, R307: SET_COMPARE, SET_TIMER and GET_TIMER, run with no other agent acting. On an 8-bit timer each is
one bus action; on Timer1 the two bytes go through TEMP1, and SET_TIMER and GET_TIMER hold GIE at 0 between them and
restore it. -/
def Obligations.CounterAndCompareCalls : Prop :=
  ∀ s : State,
    (∀ (n : Timer8Id) (v : Half), v.toNat ≤ 255 → ∀ d : Byte, d.toNat = v.toNat →
      exec (.setCompare (timerOf8 n) .a v) s = exec ((ocrOf n).writeInstr d) s ∧
      exec (.setTimer (timerOf8 n) v) s = exec ((tcntOf n).writeInstr d) s) ∧
    (∀ n : Timer8Id, exec (.getTimer (timerOf8 n)) s = .next { s with
      rdata := (s.timer8 n).tcnt, result := (s.timer8 n).tcnt.setWidth 16, shadow := false }) ∧
    (∀ (u : CmpUnit) (v : Half) (h : Byte), h.toNat = v.toNat / 256 →
      (∃ ms, exec (.setCompare .t1 u v) s =
        .next { s with t1 := { s.t1 with temp := h }, shadow := false, pending := ms ++ s.pending }) ∧
      (∃ ms, exec (.setTimer .t1 v) s = .next { s with gie := false, shadow := false, pending := ms ++ s.pending }) ∧
      (∃ ms, exec (.getTimer .t1) s = .next { s with gie := false, shadow := false, pending := ms ++ s.pending })) ∧
    (Ready s → ∀ (v : Half) (h : Byte), h.toNat = v.toNat / 256 →
      runSteps 2 (s.calling (.setCompare .t1 .a v)) = .next { s with
        t1 := { s.t1 with
          temp := h, ocrABuf := v, ocrAAct := if (class1 s.t1.wgm).unbuffered then v else s.t1.ocrAAct }
        shadow := false, input := [] } ∧
      runSteps 2 (s.calling (.setCompare .t1 .b v)) = .next { s with
        t1 := { s.t1 with
          temp := h, ocrBBuf := v, ocrBAct := if (class1 s.t1.wgm).unbuffered then v else s.t1.ocrBAct }
        shadow := false, input := [] } ∧
      runSteps (if s.gie then 4 else 3) (s.calling (.setTimer .t1 v)) = .next { s with
        t1 := { s.t1 with temp := h, tcnt := v, blk := true }
        shadow := s.gie, input := [] }) ∧
    (Ready s → ∀ h : Byte, h.toNat = s.t1.tcnt.toNat / 256 →
      runSteps (if s.gie then 4 else 3) (s.calling (.getTimer .t1)) = .next { s with
        t1 := { s.t1 with temp := h }
        rdata := h, result := s.t1.tcnt, shadow := s.gie, input := [] })

/-- R345 to R350: the ENABLE and DISABLE calls on interrupts, run with no other agent acting. ENABLE stores a non-null id
in the source's slot, and leaves the slot for the null id; the source's mask bit is set in both cases; GIE ends at 1 with
the shadow set. DISABLE clears the source's mask bit and leaves the slot, the flag and GIE. -/
def Obligations.InterruptMaskCalls : Prop :=
  ∀ (s : State) (on off : Instr) (src : Source) (cb : Half),
    ((∃ t, on = .enableOvfInt t cb ∧ off = .disableOvfInt t ∧ src = ovfSource t) ∨
      (∃ t u, unitOk t u = true ∧ on = .enableCmpInt t u cb ∧ off = .disableCmpInt t u ∧ src = cmpSource t u) ∨
      (on = .enableCaptInt cb ∧ off = .disableCaptInt ∧ src = .t1Capt)) →
    (∃ ms, exec on s = .next { s with gie := false, shadow := false, pending := ms ++ s.pending }) ∧
    (∃ ms, exec off s = .next { s with rdata := s.timsk, shadow := false, pending := ms ++ s.pending }) ∧
    (Ready s →
      (∃ sl, runSteps 5 (s.calling on) = .next { s with
          slots := sl, timsk := s.timsk ||| (1#8 <<< sourceBit src), gie := true, shadow := true
          rdata := s.timsk, input := [] } ∧
        (cb ≠ 0#16 → slotOf sl src = some cb ∧ ∀ o, o ≠ src → slotOf sl o = slotOf s.slots o) ∧
        (cb = 0#16 → sl = s.slots)) ∧
      runSteps 2 (s.calling off) = .next { s with
        timsk := s.timsk &&& ~~~(1#8 <<< sourceBit src), rdata := s.timsk, shadow := false, input := [] })

/-- R371 to R374: PWM_INIT is INIT in Fast PWM (mode 3, or 5 on Timer1) with action CLEAR and the clock of the largest
candidate divisor that the ideal one reaches, 1 if it reaches none; a frequency of 0 is refused. PWM_WRITE is
SET_COMPARE of floor(255 duty / 100); a duty above 100 is refused. -/
def Obligations.PwmCalls : Prop :=
  (∀ (ch : Channel) (freq : BitVec 32) (s : State),
    (freq = 0#32 → exec (.pwmInit ch freq) s = .refused (.pwmFreqZero ch)) ∧
    (freq ≠ 0#32 → (∃ u, exec (.pwmInit ch freq) s = .next u) ∧
      ∃ cs : BitVec 4,
        divisor8 (if ch = .ch3 then .t2 else .t0) cs.toNat = some (pwmDivisor Config.fCpu freq.toNat) ∧
        exec (.pwmInit ch freq) s = exec (.init (channelTimer ch) (channelUnit ch) 0#16
          (if ch = .ch1 ∨ ch = .ch2 then 5#4 else 3#4) cs 2#4) s)) ∧
  (∀ F freq ideal : Nat, ideal = F / (freq * 256) →
    (ideal = 0 → pwmDivisor F freq = 1) ∧
    (0 < ideal → pwmDivisor F freq ∈ [1024, 256, 64, 8, 1] ∧ pwmDivisor F freq ≤ ideal ∧
      ∀ d ∈ [1024, 256, 64, 8, 1], d ≤ ideal → d ≤ pwmDivisor F freq)) ∧
  (∀ (ch : Channel) (duty : Byte) (s : State),
    (100 < duty.toNat → exec (.pwmWrite ch duty) s = .refused (.pwmDutyRange ch duty)) ∧
    (duty.toNat ≤ 100 → (∃ u, exec (.pwmWrite ch duty) s = .next u) ∧
      ∃ v : Half, v.toNat = 255 * duty.toNat / 100 ∧
        exec (.pwmWrite ch duty) s = exec (.setCompare (channelTimer ch) (channelUnit ch) v) s)) ∧
  [Channel.ch0, .ch1, .ch2, .ch3].map (fun ch => (channelTimer ch, channelUnit ch)) =
    [(.t0, .a), (.t1, .a), (.t1, .b), (.t2, .a)]

/-- R320, R321: DELAY_MS configures its timer for Normal mode at clk_io/1 with no action and count 0, and then has
floor(PERIOD * F_CPU / 256000) overflows to count and the timer to disable; a period of 0 counts none and leaves the
timer stopped. -/
def Obligations.DelayMsSetsUpItsTimer : Prop :=
  ∀ (n : Timer8Id) (period : BitVec 32) (s : State),
    (∃ ms, exec (.delayMs (timerOf8 n) period) s =
      .next { s.withTimer8 n { s.timer8 n with tcnt := 0#8, blk := true } with
        shadow := false, pending := ms ++ s.pending }) ∧
    (Ready s → CompareFollows s →
      (∃ t, runSteps 7 (s.calling (.delayMs (timerOf8 n) period)) = .next t ∧
        t = { s.withTimer8 n { s.timer8 n with
            tcnt := 0#8, blk := true, wgm := 0#2, com := 0#2, cs := 1#3, ocrAct := (s.timer8 n).ocrBuf } with
          rdata := t.rdata, shadow := false, input := []
          pending := pollMicros n (period.toNat * Config.fCpu / 256000) ++ disableMicros8 n }) ∧
      (period = 0#32 → ∃ t, runSteps 11 (s.calling (.delayMs (timerOf8 n) period)) = .next t ∧
        t = { s.withTimer8 n { s.timer8 n with
            tcnt := 0#8, blk := true, wgm := 0#2, com := 0#2, cs := 0#3, ocrAct := (s.timer8 n).ocrBuf } with
          rdata := t.rdata, shadow := false, input := [] }))

/-- R321, R322: DELAY_MS with N overflows left to count, its timer alone in Normal mode at clk_io/1 from count 0 with the
overflow flag clear, GIE = 0, and before each successful poll one that fails and then 256 CLKs: after these the loop is
over, with the timer back at count 0 and its overflow flag clear, and what follows the loop is next. -/
def Obligations.DelayLoopCountsOverflows : Prop :=
  ∀ (n : Timer8Id) (N : Nat) (s : State) (ms : List Micro),
    s.faults = [] → s.refusals = [] → s.gie = false → s.onlyTimer8Runs n →
    (s.timer8 n).wgm = 0#2 → (s.timer8 n).cs = 1#3 → (s.timer8 n).tcnt = 0#8 → s.flag (delaySource n) = false →
    s.pending = pollMicros n N ++ ms →
    s.input = (List.replicate N
      (.cpu :: List.replicate 256 (.during 0x200000000000#48) ++ [.cpu, .cpu])).flatten →
    ∃ t, runSteps (259 * N) s = .next t ∧ t.pending = ms ∧ t.input = [] ∧
      (t.timer8 n).tcnt = 0#8 ∧ t.flag (delaySource n) = false ∧
      t.prescaler8 n = (s.prescaler8 n + 256 * N) % 1024

/-! ### Bodies and expansions (00_scope.md R13, 44_interrupt_dispatch.md R338) -/

/-- R13, R338: a callback's CPU actions are the expansions of its body's actions, in order; a body holds well-formed CPU
actions and pseudo-operations only (log 7). Every such action has an expansion of at least one CPU action; issued, it
does the first and leaves the others to do (log 3); and at the head of what is in progress, the CPU's next step is the
same as if the action were issued in front of what stands behind its expansion. -/
def Obligations.BodiesAndExpansions : Prop :=
  (∀ cb, bodyMicros cb = (Config.callbackBody cb).flatMap expand ∧
    (Config.callbackBody cb).all (fun i => i.wellFormed && i.isBodyAction) = true) ∧
  ∀ i : Instr, i.wellFormed = true → i.isBodyAction = true →
    ∃ m ms, expand i = m :: ms ∧ (∀ s, exec i s = microStep m (s.push ms)) ∧
      ∀ (s : State) (ps : List Micro), s.faults = [] → s.refusals = [] → s.acceptEnabled = false →
        s.pending = expand i ++ ps →
        (s.input = [] → step s = exec i { s with pending := ps }) ∧
        (∀ rest, s.input = .cpu :: rest → step s = exec i { s with pending := ps, input := rest })

end Statements
end

