-- ==== Sys2Proof/Laws/State.lean ====
section
/-! SUPPORT. What each named update of `State` does to each field: one lemma per field, true by `rfl`. -/

namespace Sys2Proof.Machine

/-! ### State.postlude -/

@[simp] theorem State_postlude_t0 (s : State) (b : Bool) : (s.postlude b).t0 = s.t0 := rfl
@[simp] theorem State_postlude_t1 (s : State) (b : Bool) : (s.postlude b).t1 = s.t1 := rfl
@[simp] theorem State_postlude_t2 (s : State) (b : Bool) : (s.postlude b).t2 = s.t2 := rfl
@[simp] theorem State_postlude_as2 (s : State) (b : Bool) : (s.postlude b).as2 = s.as2 := rfl
@[simp] theorem State_postlude_p01 (s : State) (b : Bool) : (s.postlude b).p01 = s.p01 := rfl
@[simp] theorem State_postlude_p2 (s : State) (b : Bool) : (s.postlude b).p2 = s.p2 := rfl
@[simp] theorem State_postlude_adts (s : State) (b : Bool) : (s.postlude b).adts = s.adts := rfl
@[simp] theorem State_postlude_acme (s : State) (b : Bool) : (s.postlude b).acme = s.acme := rfl
@[simp] theorem State_postlude_pud (s : State) (b : Bool) : (s.postlude b).pud = s.pud := rfl
@[simp] theorem State_postlude_t0Pin (s : State) (b : Bool) : (s.postlude b).t0Pin = s.t0Pin := rfl
@[simp] theorem State_postlude_t1Pin (s : State) (b : Bool) : (s.postlude b).t1Pin = s.t1Pin := rfl
@[simp] theorem State_postlude_t0Smp (s : State) (b : Bool) : (s.postlude b).t0Smp = s.t0Smp := rfl
@[simp] theorem State_postlude_t1Smp (s : State) (b : Bool) : (s.postlude b).t1Smp = s.t1Smp := rfl
@[simp] theorem State_postlude_icpPin (s : State) (b : Bool) : (s.postlude b).icpPin = s.icpPin := rfl
@[simp] theorem State_postlude_icpHist (s : State) (b : Bool) : (s.postlude b).icpHist = s.icpHist := rfl
@[simp] theorem State_postlude_icpFilt (s : State) (b : Bool) : (s.postlude b).icpFilt = s.icpFilt := rfl
@[simp] theorem State_postlude_timsk (s : State) (b : Bool) : (s.postlude b).timsk = s.timsk := rfl
@[simp] theorem State_postlude_tifr (s : State) (b : Bool) : (s.postlude b).tifr = s.tifr := rfl
@[simp] theorem State_postlude_slots (s : State) (b : Bool) : (s.postlude b).slots = s.slots := rfl
@[simp] theorem State_postlude_gie (s : State) (b : Bool) : (s.postlude b).gie = s.gie := rfl
@[simp] theorem State_postlude_shadow (s : State) (b : Bool) : (s.postlude b).shadow = b := rfl
@[simp] theorem State_postlude_isr (s : State) (b : Bool) : (s.postlude b).isr = s.isr := rfl
@[simp] theorem State_postlude_faults (s : State) (b : Bool) : (s.postlude b).faults = s.faults := rfl
@[simp] theorem State_postlude_refusals (s : State) (b : Bool) : (s.postlude b).refusals = s.refusals := rfl
@[simp] theorem State_postlude_rdata (s : State) (b : Bool) : (s.postlude b).rdata = s.rdata := rfl
@[simp] theorem State_postlude_result (s : State) (b : Bool) : (s.postlude b).result = s.result := rfl
@[simp] theorem State_postlude_vector (s : State) (b : Bool) : (s.postlude b).vector = s.vector := rfl
@[simp] theorem State_postlude_pending (s : State) (b : Bool) : (s.postlude b).pending = s.pending := rfl
@[simp] theorem State_postlude_input (s : State) (b : Bool) : (s.postlude b).input = s.input := rfl

/-! ### State.push -/

@[simp] theorem State_push_t0 (s : State) (ms : List Micro) : (s.push ms).t0 = s.t0 := rfl
@[simp] theorem State_push_t1 (s : State) (ms : List Micro) : (s.push ms).t1 = s.t1 := rfl
@[simp] theorem State_push_t2 (s : State) (ms : List Micro) : (s.push ms).t2 = s.t2 := rfl
@[simp] theorem State_push_as2 (s : State) (ms : List Micro) : (s.push ms).as2 = s.as2 := rfl
@[simp] theorem State_push_p01 (s : State) (ms : List Micro) : (s.push ms).p01 = s.p01 := rfl
@[simp] theorem State_push_p2 (s : State) (ms : List Micro) : (s.push ms).p2 = s.p2 := rfl
@[simp] theorem State_push_adts (s : State) (ms : List Micro) : (s.push ms).adts = s.adts := rfl
@[simp] theorem State_push_acme (s : State) (ms : List Micro) : (s.push ms).acme = s.acme := rfl
@[simp] theorem State_push_pud (s : State) (ms : List Micro) : (s.push ms).pud = s.pud := rfl
@[simp] theorem State_push_t0Pin (s : State) (ms : List Micro) : (s.push ms).t0Pin = s.t0Pin := rfl
@[simp] theorem State_push_t1Pin (s : State) (ms : List Micro) : (s.push ms).t1Pin = s.t1Pin := rfl
@[simp] theorem State_push_t0Smp (s : State) (ms : List Micro) : (s.push ms).t0Smp = s.t0Smp := rfl
@[simp] theorem State_push_t1Smp (s : State) (ms : List Micro) : (s.push ms).t1Smp = s.t1Smp := rfl
@[simp] theorem State_push_icpPin (s : State) (ms : List Micro) : (s.push ms).icpPin = s.icpPin := rfl
@[simp] theorem State_push_icpHist (s : State) (ms : List Micro) : (s.push ms).icpHist = s.icpHist := rfl
@[simp] theorem State_push_icpFilt (s : State) (ms : List Micro) : (s.push ms).icpFilt = s.icpFilt := rfl
@[simp] theorem State_push_timsk (s : State) (ms : List Micro) : (s.push ms).timsk = s.timsk := rfl
@[simp] theorem State_push_tifr (s : State) (ms : List Micro) : (s.push ms).tifr = s.tifr := rfl
@[simp] theorem State_push_slots (s : State) (ms : List Micro) : (s.push ms).slots = s.slots := rfl
@[simp] theorem State_push_gie (s : State) (ms : List Micro) : (s.push ms).gie = s.gie := rfl
@[simp] theorem State_push_shadow (s : State) (ms : List Micro) : (s.push ms).shadow = s.shadow := rfl
@[simp] theorem State_push_isr (s : State) (ms : List Micro) : (s.push ms).isr = s.isr := rfl
@[simp] theorem State_push_faults (s : State) (ms : List Micro) : (s.push ms).faults = s.faults := rfl
@[simp] theorem State_push_refusals (s : State) (ms : List Micro) : (s.push ms).refusals = s.refusals := rfl
@[simp] theorem State_push_rdata (s : State) (ms : List Micro) : (s.push ms).rdata = s.rdata := rfl
@[simp] theorem State_push_result (s : State) (ms : List Micro) : (s.push ms).result = s.result := rfl
@[simp] theorem State_push_vector (s : State) (ms : List Micro) : (s.push ms).vector = s.vector := rfl
@[simp] theorem State_push_pending (s : State) (ms : List Micro) : (s.push ms).pending = ms ++ s.pending := rfl
@[simp] theorem State_push_input (s : State) (ms : List Micro) : (s.push ms).input = s.input := rfl

/-! ### State.setTemp -/

@[simp] theorem State_setTemp_t0 (s : State) (v : Byte) : (s.setTemp v).t0 = s.t0 := rfl
@[simp] theorem State_setTemp_t1 (s : State) (v : Byte) : (s.setTemp v).t1 = { s.t1 with temp := v } := rfl
@[simp] theorem State_setTemp_t2 (s : State) (v : Byte) : (s.setTemp v).t2 = s.t2 := rfl
@[simp] theorem State_setTemp_as2 (s : State) (v : Byte) : (s.setTemp v).as2 = s.as2 := rfl
@[simp] theorem State_setTemp_p01 (s : State) (v : Byte) : (s.setTemp v).p01 = s.p01 := rfl
@[simp] theorem State_setTemp_p2 (s : State) (v : Byte) : (s.setTemp v).p2 = s.p2 := rfl
@[simp] theorem State_setTemp_adts (s : State) (v : Byte) : (s.setTemp v).adts = s.adts := rfl
@[simp] theorem State_setTemp_acme (s : State) (v : Byte) : (s.setTemp v).acme = s.acme := rfl
@[simp] theorem State_setTemp_pud (s : State) (v : Byte) : (s.setTemp v).pud = s.pud := rfl
@[simp] theorem State_setTemp_t0Pin (s : State) (v : Byte) : (s.setTemp v).t0Pin = s.t0Pin := rfl
@[simp] theorem State_setTemp_t1Pin (s : State) (v : Byte) : (s.setTemp v).t1Pin = s.t1Pin := rfl
@[simp] theorem State_setTemp_t0Smp (s : State) (v : Byte) : (s.setTemp v).t0Smp = s.t0Smp := rfl
@[simp] theorem State_setTemp_t1Smp (s : State) (v : Byte) : (s.setTemp v).t1Smp = s.t1Smp := rfl
@[simp] theorem State_setTemp_icpPin (s : State) (v : Byte) : (s.setTemp v).icpPin = s.icpPin := rfl
@[simp] theorem State_setTemp_icpHist (s : State) (v : Byte) : (s.setTemp v).icpHist = s.icpHist := rfl
@[simp] theorem State_setTemp_icpFilt (s : State) (v : Byte) : (s.setTemp v).icpFilt = s.icpFilt := rfl
@[simp] theorem State_setTemp_timsk (s : State) (v : Byte) : (s.setTemp v).timsk = s.timsk := rfl
@[simp] theorem State_setTemp_tifr (s : State) (v : Byte) : (s.setTemp v).tifr = s.tifr := rfl
@[simp] theorem State_setTemp_slots (s : State) (v : Byte) : (s.setTemp v).slots = s.slots := rfl
@[simp] theorem State_setTemp_gie (s : State) (v : Byte) : (s.setTemp v).gie = s.gie := rfl
@[simp] theorem State_setTemp_shadow (s : State) (v : Byte) : (s.setTemp v).shadow = s.shadow := rfl
@[simp] theorem State_setTemp_isr (s : State) (v : Byte) : (s.setTemp v).isr = s.isr := rfl
@[simp] theorem State_setTemp_faults (s : State) (v : Byte) : (s.setTemp v).faults = s.faults := rfl
@[simp] theorem State_setTemp_refusals (s : State) (v : Byte) : (s.setTemp v).refusals = s.refusals := rfl
@[simp] theorem State_setTemp_rdata (s : State) (v : Byte) : (s.setTemp v).rdata = s.rdata := rfl
@[simp] theorem State_setTemp_result (s : State) (v : Byte) : (s.setTemp v).result = s.result := rfl
@[simp] theorem State_setTemp_vector (s : State) (v : Byte) : (s.setTemp v).vector = s.vector := rfl
@[simp] theorem State_setTemp_pending (s : State) (v : Byte) : (s.setTemp v).pending = s.pending := rfl
@[simp] theorem State_setTemp_input (s : State) (v : Byte) : (s.setTemp v).input = s.input := rfl

/-! ### State.doSei -/

@[simp] theorem State_doSei_t0 (s : State) : (s.doSei).t0 = s.t0 := rfl
@[simp] theorem State_doSei_t1 (s : State) : (s.doSei).t1 = s.t1 := rfl
@[simp] theorem State_doSei_t2 (s : State) : (s.doSei).t2 = s.t2 := rfl
@[simp] theorem State_doSei_as2 (s : State) : (s.doSei).as2 = s.as2 := rfl
@[simp] theorem State_doSei_p01 (s : State) : (s.doSei).p01 = s.p01 := rfl
@[simp] theorem State_doSei_p2 (s : State) : (s.doSei).p2 = s.p2 := rfl
@[simp] theorem State_doSei_adts (s : State) : (s.doSei).adts = s.adts := rfl
@[simp] theorem State_doSei_acme (s : State) : (s.doSei).acme = s.acme := rfl
@[simp] theorem State_doSei_pud (s : State) : (s.doSei).pud = s.pud := rfl
@[simp] theorem State_doSei_t0Pin (s : State) : (s.doSei).t0Pin = s.t0Pin := rfl
@[simp] theorem State_doSei_t1Pin (s : State) : (s.doSei).t1Pin = s.t1Pin := rfl
@[simp] theorem State_doSei_t0Smp (s : State) : (s.doSei).t0Smp = s.t0Smp := rfl
@[simp] theorem State_doSei_t1Smp (s : State) : (s.doSei).t1Smp = s.t1Smp := rfl
@[simp] theorem State_doSei_icpPin (s : State) : (s.doSei).icpPin = s.icpPin := rfl
@[simp] theorem State_doSei_icpHist (s : State) : (s.doSei).icpHist = s.icpHist := rfl
@[simp] theorem State_doSei_icpFilt (s : State) : (s.doSei).icpFilt = s.icpFilt := rfl
@[simp] theorem State_doSei_timsk (s : State) : (s.doSei).timsk = s.timsk := rfl
@[simp] theorem State_doSei_tifr (s : State) : (s.doSei).tifr = s.tifr := rfl
@[simp] theorem State_doSei_slots (s : State) : (s.doSei).slots = s.slots := rfl
@[simp] theorem State_doSei_gie (s : State) : (s.doSei).gie = true := rfl
@[simp] theorem State_doSei_shadow (s : State) : (s.doSei).shadow = true := rfl
@[simp] theorem State_doSei_isr (s : State) : (s.doSei).isr = s.isr := rfl
@[simp] theorem State_doSei_faults (s : State) : (s.doSei).faults = s.faults := rfl
@[simp] theorem State_doSei_refusals (s : State) : (s.doSei).refusals = s.refusals := rfl
@[simp] theorem State_doSei_rdata (s : State) : (s.doSei).rdata = s.rdata := rfl
@[simp] theorem State_doSei_result (s : State) : (s.doSei).result = s.result := rfl
@[simp] theorem State_doSei_vector (s : State) : (s.doSei).vector = s.vector := rfl
@[simp] theorem State_doSei_pending (s : State) : (s.doSei).pending = s.pending := rfl
@[simp] theorem State_doSei_input (s : State) : (s.doSei).input = s.input := rfl

/-! ### State.doCli -/

@[simp] theorem State_doCli_t0 (s : State) : (s.doCli).t0 = s.t0 := rfl
@[simp] theorem State_doCli_t1 (s : State) : (s.doCli).t1 = s.t1 := rfl
@[simp] theorem State_doCli_t2 (s : State) : (s.doCli).t2 = s.t2 := rfl
@[simp] theorem State_doCli_as2 (s : State) : (s.doCli).as2 = s.as2 := rfl
@[simp] theorem State_doCli_p01 (s : State) : (s.doCli).p01 = s.p01 := rfl
@[simp] theorem State_doCli_p2 (s : State) : (s.doCli).p2 = s.p2 := rfl
@[simp] theorem State_doCli_adts (s : State) : (s.doCli).adts = s.adts := rfl
@[simp] theorem State_doCli_acme (s : State) : (s.doCli).acme = s.acme := rfl
@[simp] theorem State_doCli_pud (s : State) : (s.doCli).pud = s.pud := rfl
@[simp] theorem State_doCli_t0Pin (s : State) : (s.doCli).t0Pin = s.t0Pin := rfl
@[simp] theorem State_doCli_t1Pin (s : State) : (s.doCli).t1Pin = s.t1Pin := rfl
@[simp] theorem State_doCli_t0Smp (s : State) : (s.doCli).t0Smp = s.t0Smp := rfl
@[simp] theorem State_doCli_t1Smp (s : State) : (s.doCli).t1Smp = s.t1Smp := rfl
@[simp] theorem State_doCli_icpPin (s : State) : (s.doCli).icpPin = s.icpPin := rfl
@[simp] theorem State_doCli_icpHist (s : State) : (s.doCli).icpHist = s.icpHist := rfl
@[simp] theorem State_doCli_icpFilt (s : State) : (s.doCli).icpFilt = s.icpFilt := rfl
@[simp] theorem State_doCli_timsk (s : State) : (s.doCli).timsk = s.timsk := rfl
@[simp] theorem State_doCli_tifr (s : State) : (s.doCli).tifr = s.tifr := rfl
@[simp] theorem State_doCli_slots (s : State) : (s.doCli).slots = s.slots := rfl
@[simp] theorem State_doCli_gie (s : State) : (s.doCli).gie = false := rfl
@[simp] theorem State_doCli_shadow (s : State) : (s.doCli).shadow = false := rfl
@[simp] theorem State_doCli_isr (s : State) : (s.doCli).isr = s.isr := rfl
@[simp] theorem State_doCli_faults (s : State) : (s.doCli).faults = s.faults := rfl
@[simp] theorem State_doCli_refusals (s : State) : (s.doCli).refusals = s.refusals := rfl
@[simp] theorem State_doCli_rdata (s : State) : (s.doCli).rdata = s.rdata := rfl
@[simp] theorem State_doCli_result (s : State) : (s.doCli).result = s.result := rfl
@[simp] theorem State_doCli_vector (s : State) : (s.doCli).vector = s.vector := rfl
@[simp] theorem State_doCli_pending (s : State) : (s.doCli).pending = s.pending := rfl
@[simp] theorem State_doCli_input (s : State) : (s.doCli).input = s.input := rfl

/-! ### State.takeInterrupt -/

@[simp] theorem State_takeInterrupt_t0 (s : State) (src : Source) : (s.takeInterrupt src).t0 = s.t0 := rfl
@[simp] theorem State_takeInterrupt_t1 (s : State) (src : Source) : (s.takeInterrupt src).t1 = s.t1 := rfl
@[simp] theorem State_takeInterrupt_t2 (s : State) (src : Source) : (s.takeInterrupt src).t2 = s.t2 := rfl
@[simp] theorem State_takeInterrupt_as2 (s : State) (src : Source) : (s.takeInterrupt src).as2 = s.as2 := rfl
@[simp] theorem State_takeInterrupt_p01 (s : State) (src : Source) : (s.takeInterrupt src).p01 = s.p01 := rfl
@[simp] theorem State_takeInterrupt_p2 (s : State) (src : Source) : (s.takeInterrupt src).p2 = s.p2 := rfl
@[simp] theorem State_takeInterrupt_adts (s : State) (src : Source) : (s.takeInterrupt src).adts = s.adts := rfl
@[simp] theorem State_takeInterrupt_acme (s : State) (src : Source) : (s.takeInterrupt src).acme = s.acme := rfl
@[simp] theorem State_takeInterrupt_pud (s : State) (src : Source) : (s.takeInterrupt src).pud = s.pud := rfl
@[simp] theorem State_takeInterrupt_t0Pin (s : State) (src : Source) : (s.takeInterrupt src).t0Pin = s.t0Pin := rfl
@[simp] theorem State_takeInterrupt_t1Pin (s : State) (src : Source) : (s.takeInterrupt src).t1Pin = s.t1Pin := rfl
@[simp] theorem State_takeInterrupt_t0Smp (s : State) (src : Source) : (s.takeInterrupt src).t0Smp = s.t0Smp := rfl
@[simp] theorem State_takeInterrupt_t1Smp (s : State) (src : Source) : (s.takeInterrupt src).t1Smp = s.t1Smp := rfl
@[simp] theorem State_takeInterrupt_icpPin (s : State) (src : Source) : (s.takeInterrupt src).icpPin = s.icpPin := rfl
@[simp] theorem State_takeInterrupt_icpHist (s : State) (src : Source) : (s.takeInterrupt src).icpHist = s.icpHist := rfl
@[simp] theorem State_takeInterrupt_icpFilt (s : State) (src : Source) : (s.takeInterrupt src).icpFilt = s.icpFilt := rfl
@[simp] theorem State_takeInterrupt_timsk (s : State) (src : Source) : (s.takeInterrupt src).timsk = s.timsk := rfl
@[simp] theorem State_takeInterrupt_tifr (s : State) (src : Source) : (s.takeInterrupt src).tifr = clearFlag src s.tifr := rfl
@[simp] theorem State_takeInterrupt_slots (s : State) (src : Source) : (s.takeInterrupt src).slots = s.slots := rfl
@[simp] theorem State_takeInterrupt_gie (s : State) (src : Source) : (s.takeInterrupt src).gie = false := rfl
@[simp] theorem State_takeInterrupt_shadow (s : State) (src : Source) : (s.takeInterrupt src).shadow = s.shadow := rfl
@[simp] theorem State_takeInterrupt_isr (s : State) (src : Source) : (s.takeInterrupt src).isr = src :: s.isr := rfl
@[simp] theorem State_takeInterrupt_faults (s : State) (src : Source) : (s.takeInterrupt src).faults = s.faults := rfl
@[simp] theorem State_takeInterrupt_refusals (s : State) (src : Source) : (s.takeInterrupt src).refusals = s.refusals := rfl
@[simp] theorem State_takeInterrupt_rdata (s : State) (src : Source) : (s.takeInterrupt src).rdata = s.rdata := rfl
@[simp] theorem State_takeInterrupt_result (s : State) (src : Source) : (s.takeInterrupt src).result = s.result := rfl
@[simp] theorem State_takeInterrupt_vector (s : State) (src : Source) : (s.takeInterrupt src).vector = vectorOf src := rfl
@[simp] theorem State_takeInterrupt_pending (s : State) (src : Source) : (s.takeInterrupt src).pending = isrMicros src ++ s.pending := rfl
@[simp] theorem State_takeInterrupt_input (s : State) (src : Source) : (s.takeInterrupt src).input = s.input := rfl

/-! ### clockFront -/

@[simp] theorem clockFront_t0 (s : State) : (clockFront s).t0 = s.t0 := rfl
@[simp] theorem clockFront_t2 (s : State) : (clockFront s).t2 = s.t2 := rfl
@[simp] theorem clockFront_as2 (s : State) : (clockFront s).as2 = s.as2 := rfl
@[simp] theorem clockFront_p01 (s : State) : (clockFront s).p01 = s.p01 + 1#10 := rfl
@[simp] theorem clockFront_p2 (s : State) : (clockFront s).p2 = s.p2 + 1#10 := rfl
@[simp] theorem clockFront_adts (s : State) : (clockFront s).adts = s.adts := rfl
@[simp] theorem clockFront_acme (s : State) : (clockFront s).acme = s.acme := rfl
@[simp] theorem clockFront_pud (s : State) : (clockFront s).pud = s.pud := rfl
@[simp] theorem clockFront_t0Pin (s : State) : (clockFront s).t0Pin = s.t0Pin := rfl
@[simp] theorem clockFront_t1Pin (s : State) : (clockFront s).t1Pin = s.t1Pin := rfl
@[simp] theorem clockFront_t0Smp (s : State) : (clockFront s).t0Smp = s.t0Pin := rfl
@[simp] theorem clockFront_t1Smp (s : State) : (clockFront s).t1Smp = s.t1Pin := rfl
@[simp] theorem clockFront_icpPin (s : State) : (clockFront s).icpPin = s.icpPin := rfl
@[simp] theorem clockFront_icpHist (s : State) : (clockFront s).icpHist = s.icpHist.push s.icpPin := rfl
@[simp] theorem clockFront_timsk (s : State) : (clockFront s).timsk = s.timsk := rfl
@[simp] theorem clockFront_slots (s : State) : (clockFront s).slots = s.slots := rfl
@[simp] theorem clockFront_gie (s : State) : (clockFront s).gie = s.gie := rfl
@[simp] theorem clockFront_shadow (s : State) : (clockFront s).shadow = s.shadow := rfl
@[simp] theorem clockFront_isr (s : State) : (clockFront s).isr = s.isr := rfl
@[simp] theorem clockFront_faults (s : State) : (clockFront s).faults = s.faults := rfl
@[simp] theorem clockFront_refusals (s : State) : (clockFront s).refusals = s.refusals := rfl
@[simp] theorem clockFront_rdata (s : State) : (clockFront s).rdata = s.rdata := rfl
@[simp] theorem clockFront_result (s : State) : (clockFront s).result = s.result := rfl
@[simp] theorem clockFront_vector (s : State) : (clockFront s).vector = s.vector := rfl
@[simp] theorem clockFront_pending (s : State) : (clockFront s).pending = s.pending := rfl
@[simp] theorem clockFront_input (s : State) : (clockFront s).input = s.input := rfl

/-! ### stepTimers -/

@[simp] theorem stepTimers_t0 (k0 k1 k2 : Bool) (s : State) : (stepTimers k0 k1 k2 s).t0 = if k0 then s.t0.step else s.t0 := rfl
@[simp] theorem stepTimers_t1 (k0 k1 k2 : Bool) (s : State) : (stepTimers k0 k1 k2 s).t1 = if k1 then s.t1.step else s.t1 := rfl
@[simp] theorem stepTimers_t2 (k0 k1 k2 : Bool) (s : State) : (stepTimers k0 k1 k2 s).t2 = if k2 then s.t2.step else s.t2 := rfl
@[simp] theorem stepTimers_as2 (k0 k1 k2 : Bool) (s : State) : (stepTimers k0 k1 k2 s).as2 = s.as2 := rfl
@[simp] theorem stepTimers_p01 (k0 k1 k2 : Bool) (s : State) : (stepTimers k0 k1 k2 s).p01 = s.p01 := rfl
@[simp] theorem stepTimers_p2 (k0 k1 k2 : Bool) (s : State) : (stepTimers k0 k1 k2 s).p2 = s.p2 := rfl
@[simp] theorem stepTimers_adts (k0 k1 k2 : Bool) (s : State) : (stepTimers k0 k1 k2 s).adts = s.adts := rfl
@[simp] theorem stepTimers_acme (k0 k1 k2 : Bool) (s : State) : (stepTimers k0 k1 k2 s).acme = s.acme := rfl
@[simp] theorem stepTimers_pud (k0 k1 k2 : Bool) (s : State) : (stepTimers k0 k1 k2 s).pud = s.pud := rfl
@[simp] theorem stepTimers_t0Pin (k0 k1 k2 : Bool) (s : State) : (stepTimers k0 k1 k2 s).t0Pin = s.t0Pin := rfl
@[simp] theorem stepTimers_t1Pin (k0 k1 k2 : Bool) (s : State) : (stepTimers k0 k1 k2 s).t1Pin = s.t1Pin := rfl
@[simp] theorem stepTimers_t0Smp (k0 k1 k2 : Bool) (s : State) : (stepTimers k0 k1 k2 s).t0Smp = s.t0Smp := rfl
@[simp] theorem stepTimers_t1Smp (k0 k1 k2 : Bool) (s : State) : (stepTimers k0 k1 k2 s).t1Smp = s.t1Smp := rfl
@[simp] theorem stepTimers_icpPin (k0 k1 k2 : Bool) (s : State) : (stepTimers k0 k1 k2 s).icpPin = s.icpPin := rfl
@[simp] theorem stepTimers_icpHist (k0 k1 k2 : Bool) (s : State) : (stepTimers k0 k1 k2 s).icpHist = s.icpHist := rfl
@[simp] theorem stepTimers_icpFilt (k0 k1 k2 : Bool) (s : State) : (stepTimers k0 k1 k2 s).icpFilt = s.icpFilt := rfl
@[simp] theorem stepTimers_timsk (k0 k1 k2 : Bool) (s : State) : (stepTimers k0 k1 k2 s).timsk = s.timsk := rfl
@[simp] theorem stepTimers_slots (k0 k1 k2 : Bool) (s : State) : (stepTimers k0 k1 k2 s).slots = s.slots := rfl
@[simp] theorem stepTimers_gie (k0 k1 k2 : Bool) (s : State) : (stepTimers k0 k1 k2 s).gie = s.gie := rfl
@[simp] theorem stepTimers_shadow (k0 k1 k2 : Bool) (s : State) : (stepTimers k0 k1 k2 s).shadow = s.shadow := rfl
@[simp] theorem stepTimers_isr (k0 k1 k2 : Bool) (s : State) : (stepTimers k0 k1 k2 s).isr = s.isr := rfl
@[simp] theorem stepTimers_faults (k0 k1 k2 : Bool) (s : State) : (stepTimers k0 k1 k2 s).faults = s.faults := rfl
@[simp] theorem stepTimers_refusals (k0 k1 k2 : Bool) (s : State) : (stepTimers k0 k1 k2 s).refusals = s.refusals := rfl
@[simp] theorem stepTimers_rdata (k0 k1 k2 : Bool) (s : State) : (stepTimers k0 k1 k2 s).rdata = s.rdata := rfl
@[simp] theorem stepTimers_result (k0 k1 k2 : Bool) (s : State) : (stepTimers k0 k1 k2 s).result = s.result := rfl
@[simp] theorem stepTimers_vector (k0 k1 k2 : Bool) (s : State) : (stepTimers k0 k1 k2 s).vector = s.vector := rfl
@[simp] theorem stepTimers_pending (k0 k1 k2 : Bool) (s : State) : (stepTimers k0 k1 k2 s).pending = s.pending := rfl
@[simp] theorem stepTimers_input (k0 k1 k2 : Bool) (s : State) : (stepTimers k0 k1 k2 s).input = s.input := rfl

end Sys2Proof.Machine
end

