-- ==== Sys2Proof/Laws/Ops.lean ====
section
/-! SUPPORT. What each shared operation can do, said once: "if it answers `next t`, then …". Proofs about actions and
steps cite these instead of unfolding the operations. -/

namespace Sys2Proof.Machine

/-! ### Reads -/

/-- A read changes TEMP1 at most, and only for TCNT1L and ICR1L. -/
theorem readEffect_eq (s : State) (r : Reg) :
    s.readEffect r = s.setTemp (match r with
      | .tcnt1l => hiByte s.t1.tcnt
      | .icr1l => hiByte s.t1.icr
      | _ => s.t1.temp) := by
  cases r <;> rfl

@[simp] theorem busRead_rdata (s : State) (r : Reg) : (s.busRead r).rdata = s.readValue r := rfl
@[simp] theorem busRead_shadow (s : State) (r : Reg) : (s.busRead r).shadow = false := rfl

/-- A bus read, as one record update. -/
theorem busRead_eq (s : State) (r : Reg) :
    s.busRead r = { s with
      t1 := { s.t1 with temp := match r with
        | .tcnt1l => hiByte s.t1.tcnt
        | .icr1l => hiByte s.t1.icr
        | _ => s.t1.temp }
      rdata := s.readValue r
      shadow := false } := by
  cases r <;> rfl

/-! ### Writes -/

/-- A bus write answers a next state unless it sets AS2. -/
theorem busWrite_next {s t : State} {r : Reg} {d : Byte} :
    s.busWrite r d = .next t ↔
      ¬(r = .assr ∧ d.getLsbD 3 = true) ∧ t = (s.writeEffect d r).postlude false := by
  unfold State.busWrite
  by_cases h : r = .assr ∧ d.getLsbD 3 = true
  · simp [h]
  · have hb : (r == .assr && d.getLsbD 3) = false := by
      simpa [Bool.and_eq_false_iff] using h
    simp only [hb, h, not_false_iff, true_and]
    constructor
    · intro e; exact (Host.Outcome.next.inj e).symm
    · intro e; simp [e]

/-! ### Interrupts -/

/-- ACCEPT answers a next state exactly where it is enabled, and then takes the selected source. -/
theorem doAccept_next {s t : State} :
    s.doAccept = .next t ↔
      s.acceptEnabled = true ∧ ∃ src, s.selectSource = some src ∧ t = s.takeInterrupt src := by
  unfold State.doAccept
  cases he : s.acceptEnabled with
  | false => simp
  | true =>
    cases hs : s.selectSource with
    | none => simp
    | some src =>
      simp only [Option.some.injEq, exists_eq_left', true_and]
      constructor
      · intro e; exact (Host.Outcome.next.inj e).symm
      · intro e; simp [e]

/-- Where ACCEPT is enabled, a source is selected. -/
theorem acceptEnabled_select {s : State} (h : s.acceptEnabled = true) :
    ∃ src, s.selectSource = some src := by
  unfold State.acceptEnabled at h
  simp only [Bool.and_eq_true] at h
  exact Option.isSome_iff_exists.mp h.1.1.2

/-- RETI answers a next state exactly when an interrupt is outstanding. -/
theorem doReti_next {s t : State} :
    s.doReti = .next t ↔
      ∃ src rest, s.isr = src :: rest ∧ t = { s with isr := rest, gie := true, shadow := true } := by
  unfold State.doReti
  cases h : s.isr with
  | nil => simp
  | cons src rest =>
    constructor
    · intro e; exact ⟨src, rest, rfl, (Host.Outcome.next.inj e).symm⟩
    · rintro ⟨a, b, hab, e⟩
      obtain ⟨-, rfl⟩ := List.cons.inj hab
      rw [e]; rfl

/-- INVOKE answers a next state exactly when the slot holds a callback. -/
theorem doInvoke_next {s t : State} {src : Source} :
    s.doInvoke src = .next t ↔
      ∃ cb, slotOf s.slots src = some cb ∧ t = (s.postlude false).push (bodyMicros cb) := by
  unfold State.doInvoke
  cases h : slotOf s.slots src with
  | none => simp
  | some cb =>
    constructor
    · intro e; exact ⟨cb, rfl, (Host.Outcome.next.inj e).symm⟩
    · rintro ⟨c, hc, e⟩
      rw [Option.some.inj hc, e]

@[simp] theorem slotOf_setSlot_same (sl : Slots) (src : Source) (v : Option Half) :
    slotOf (setSlot sl src v) src = v := by
  cases src <;> rfl

theorem slotOf_setSlot_other (sl : Slots) {src src' : Source} (v : Option Half) (h : src' ≠ src) :
    slotOf (setSlot sl src v) src' = slotOf sl src' := by
  cases src <;> cases src' <;> first | rfl | exact absurd rfl h

/-! ### Clock -/

/-- CLK answers a next state exactly when no timer step is refused. -/
theorem execClk_next {s t : State} :
    execClk s = .next t ↔ clockRefusals s = [] ∧ t = clocked s := by
  unfold execClk
  cases h : clockRefusals s with
  | nil =>
    constructor
    · intro e; exact ⟨rfl, (Host.Outcome.next.inj e).symm⟩
    · rintro ⟨-, e⟩; rw [e]
  | cons c cs => simp

/-! ### Operations in progress -/

/-- A pseudo-operation that begins does the first action of its expansion. -/
theorem startOperation_cons (m : Micro) (rest : List Micro) (s : State) :
    startOperation true (m :: rest) s = microStep m (s.push rest) := rfl

/-! ### Steps -/

/-- A step that answers a next state is an action of a run that has not stopped. -/
theorem step_next {s t : State} :
    step s = .next t ↔ s.faults = [] ∧ s.refusals = [] ∧ nextAction s = .next t := by
  unfold step
  cases s.faults <;> cases s.refusals <;> simp

/-- A run that has not stopped takes its next action. -/
theorem step_running {s : State} (hf : s.faults = []) (hr : s.refusals = []) : step s = nextAction s := by
  unfold step; rw [hf, hr]

/-- What is issued next, and whether ACCEPT is enabled, do not depend on each other; nor does what is in progress. -/
theorem acceptEnabled_congr {s t : State} (hg : s.gie = t.gie) (hs : s.shadow = t.shadow) (hm : s.timsk = t.timsk)
    (ht : s.tifr = t.tifr) (hf : s.faults = t.faults) (hr : s.refusals = t.refusals) :
    s.acceptEnabled = t.acceptEnabled := by
  unfold State.acceptEnabled State.selectSource State.pendingSource
  rw [hg, hs, hm, ht, hf, hr]

/-- A source is selected exactly when some source is pending. -/
theorem selectSource_isSome (s : State) :
    s.selectSource.isSome = true ↔ ∃ src, s.pendingSource src = true := by
  unfold State.selectSource
  rw [List.find?_isSome]
  constructor
  · rintro ⟨x, -, h⟩; exact ⟨x, h⟩
  · rintro ⟨x, h⟩; exact ⟨x, by cases x <;> decide, h⟩

/-- Where ACCEPT is enabled, the CPU's turn is ACCEPT. -/
theorem cpuTurn_accept {s : State} (h : s.acceptEnabled = true) : cpuTurn s = exec .accept s := by
  unfold cpuTurn; rw [if_pos h]

/-- Where ACCEPT is not enabled, the CPU's turn is the next action of the operation in progress. -/
theorem cpuTurn_micro {s : State} {m : Micro} {ms : List Micro} (h : s.acceptEnabled = false)
    (hp : s.pending = m :: ms) : cpuTurn s = microStep m { s with pending := ms } := by
  unfold cpuTurn; rw [if_neg (by simp [h]), hp]

/-- With nothing to accept and nothing in progress, the CPU's turn does nothing. -/
theorem cpuTurn_idle {s : State} (h : s.acceptEnabled = false) (hp : s.pending = []) : cpuTurn s = .next s := by
  unfold cpuTurn; rw [if_neg (by simp [h]), hp]

/-- The next action, by what is issued. -/
theorem nextAction_nil {s : State} (h : s.input = []) : nextAction s = idleTurn s := by
  unfold nextAction; rw [h]

theorem nextAction_cpu {s : State} {rest : List Input} (h : s.input = .cpu :: rest) :
    nextAction s = cpuTurn { s with input := rest } := by
  unfold nextAction; rw [h]

theorem nextAction_word {s : State} {w : ActionWord} {rest : List Input} (h : s.input = .word w :: rest) :
    nextAction s = takeWord w false rest s := by
  unfold nextAction; rw [h]

theorem nextAction_during {s : State} {w : ActionWord} {rest : List Input} (h : s.input = .during w :: rest) :
    nextAction s = takeWord w true rest s := by
  unfold nextAction; rw [h]

/-- A word whose action runs now is executed; one that waits lets the CPU side go on. -/
theorem takeWord_runs {w : ActionWord} {i : Instr} {during : Bool} {rest : List Input} {s : State}
    (hd : decode w = some i) (hr : s.runsNow i during = true) :
    takeWord w during rest s = exec i { s with input := rest } := by
  unfold takeWord; rw [hd]; exact if_pos hr

theorem takeWord_waits {w : ActionWord} {i : Instr} {during : Bool} {rest : List Input} {s : State}
    (hd : decode w = some i) (hr : s.runsNow i during = false) :
    takeWord w during rest s = cpuTurn s := by
  unfold takeWord; rw [hd]; exact if_neg (by simp [hr])

/-- With nothing issued and an operation in progress, the CPU side goes on. -/
theorem idleTurn_pending {s : State} {m : Micro} {ms : List Micro} (hp : s.pending = m :: ms) :
    idleTurn s = cpuTurn s := by
  unfold idleTurn; rw [hp]; simp

/-- A word that answers a next state decodes, and either runs now or waits for the CPU side. -/
theorem takeWord_next {w : ActionWord} {during : Bool} {rest : List Input} {s t : State}
    (h : takeWord w during rest s = .next t) :
    ∃ i, decode w = some i ∧
      ((s.runsNow i during = true ∧ exec i { s with input := rest } = .next t) ∨
       (s.runsNow i during = false ∧ cpuTurn s = .next t)) := by
  unfold takeWord at h
  cases hd : decode w with
  | none => simp [hd] at h
  | some i =>
    refine ⟨i, rfl, ?_⟩
    cases hr : s.runsNow i during <;> simp [hd, hr] at h
    · exact .inr ⟨rfl, h⟩
    · exact .inl ⟨rfl, h⟩

/-- The CPU side that answers a next state accepts an interrupt, does nothing, or does its next action. -/
theorem cpuTurn_next {s t : State} (h : cpuTurn s = .next t) :
    (s.acceptEnabled = true ∧ s.doAccept = .next t) ∨
    (s.acceptEnabled = false ∧ s.pending = [] ∧ t = s) ∨
    (s.acceptEnabled = false ∧ ∃ m ms, s.pending = m :: ms ∧
      microStep m { s with pending := ms } = .next t) := by
  unfold cpuTurn at h
  cases ha : s.acceptEnabled with
  | true => simp [ha] at h; exact .inl ⟨rfl, h⟩
  | false =>
    cases hp : s.pending with
    | nil => simp [ha, hp] at h; exact .inr (.inl ⟨rfl, rfl, h.symm⟩)
    | cons m ms => simp [ha, hp] at h; exact .inr (.inr ⟨rfl, m, ms, rfl, h⟩)

end Sys2Proof.Machine
end

