-- ==== Sys2Proof/Laws/Actions.lean ====
section
/-! SUPPORT. What whole actions do, said once: bus reads and writes by register, CLK by timer, the actions of an
operation in progress, sequences of clocks, and recorded stops. -/

namespace Sys2Proof.Machine

/-! ### Bus actions by register -/

/-- The 20 reads are one operation. -/
theorem exec_readInstr (r : Reg) (s : State) : exec r.readInstr s = .next (s.busRead r) := by
  cases r <;> rfl

/-- The 20 writes are one operation. -/
theorem exec_writeInstr (r : Reg) (d : Byte) (s : State) : exec (r.writeInstr d) s = s.busWrite r d := by
  cases r <;> rfl

/-! ### CLK by timer -/

/-- CLK answers a next state exactly when nothing is refused, and then it is `clocked`. -/
theorem exec_clk_next {s t : State} : exec .clk s = .next t ↔ clockRefusals s = [] ∧ t = clocked s := execClk_next

/-- Nothing is refused exactly when no timer that ticks refuses. -/
theorem clockRefusals_nil (s : State) :
    clockRefusals s = [] ↔
      (tick0 s = true → s.t0.refusals .t0 = []) ∧ (tick1 s = true → s.t1.refusals = []) ∧
      (tick2 s = true → s.t2.refusals .t2 = []) := by
  unfold clockRefusals
  cases tick0 s <;> cases tick1 s <;> cases tick2 s <;> simp

/-- Timer0 or Timer2 after CLK. -/
theorem clocked_timer8 (s : State) (n : Timer8Id) :
    (clocked s).timer8 n = if s.ticks8 n = true then (s.timer8 n).step else s.timer8 n := by
  cases n <;> rfl

/-- Timer1 after CLK: the front end may load ICR1, then the timer steps if it ticks. -/
theorem clocked_t1 (s : State) :
    (clocked s).t1 = if tick1 s = true then (captureFrontEnd s).t1.step else (captureFrontEnd s).t1 := rfl

/-- The front end changes no field of Timer1 but ICR1. -/
theorem captureFrontEnd_t1 (s : State) : (captureFrontEnd s).t1 = { s.t1 with icr := (captureFrontEnd s).t1.icr } := by
  unfold captureFrontEnd
  by_cases h : (captureEdge s.t1.ices s.icpFilt
    (filteredLevel s.t1.icnc s.icpPin s.icpFilt (s.icpHist.push s.icpPin)) && !icrIsTop s.t1.wgm) = true
  · simp only [h, if_true]
  · simp only [h, if_false, Bool.false_eq_true]

/-- The prescalers and pin samples after CLK. -/
theorem clocked_front (s : State) :
    (clocked s).p01 = s.p01 + 1#10 ∧ (clocked s).p2 = s.p2 + 1#10 ∧ (clocked s).t0Smp = s.t0Pin ∧
      (clocked s).t1Smp = s.t1Pin := ⟨rfl, rfl, rfl, rfl⟩

/-- CLK leaves the CPU side alone. -/
theorem clocked_cpu (s : State) :
    (clocked s).timsk = s.timsk ∧ (clocked s).slots = s.slots ∧ (clocked s).gie = s.gie ∧
      (clocked s).shadow = s.shadow ∧ (clocked s).isr = s.isr ∧ (clocked s).faults = s.faults ∧
      (clocked s).refusals = s.refusals ∧ (clocked s).pending = s.pending ∧ (clocked s).input = s.input :=
  ⟨rfl, rfl, rfl, rfl, rfl, rfl, rfl, rfl, rfl⟩

/-! ### Sequences of clocks -/

@[simp] theorem clocks_zero (s : State) : clocks 0 s = .next s := rfl

/-- k + 1 clocks are one clock and then k, if the first answers a next state. -/
theorem clocks_succ {s t : State} (k : Nat) (h : exec .clk s = .next t) : clocks (k + 1) s = clocks k t := by
  show (match exec .clk s with
    | .next t => clocks k t
    | .fault f => .fault f
    | .refused r => .refused r) = clocks k t
  rw [h]

/-! ### Operations in progress -/

/-- A poll is a read of TIFR and then what its outcome asks for. -/
theorem microStep_poll (n : Timer8Id) (left : Nat) (s : State) :
    microStep (.poll n left) s = .next ((s.busRead .tifr).push (afterPoll n left s.tifr)) := rfl

/-- A read-modify-write is a read that leaves the write to do. -/
theorem microStep_rmw (r : Reg) (keep set : Byte) (s : State) :
    microStep (.rmw r keep set) s =
      .next ((s.busRead r).push [.wr r ((s.readValue r &&& keep) ||| set)]) := rfl

/-- What no CPU action changes: what is issued, what is recorded, and the input side of the pins. -/
structure SameSurroundings (s t : State) : Prop where
  input : t.input = s.input
  faults : t.faults = s.faults
  refusals : t.refusals = s.refusals
  t0Pin : t.t0Pin = s.t0Pin
  t1Pin : t.t1Pin = s.t1Pin
  t0Smp : t.t0Smp = s.t0Smp
  t1Smp : t.t1Smp = s.t1Smp
  icpPin : t.icpPin = s.icpPin
  icpHist : t.icpHist = s.icpHist
  icpFilt : t.icpFilt = s.icpFilt

theorem busRead_surroundings (s : State) (r : Reg) : SameSurroundings s (s.busRead r) := by
  rw [busRead_eq]; exact ⟨rfl, rfl, rfl, rfl, rfl, rfl, rfl, rfl, rfl, rfl⟩

theorem writeEffect_surroundings (s : State) (d : Byte) (r : Reg) :
    SameSurroundings s ((s.writeEffect d r).postlude false) := by
  cases r <;> exact ⟨rfl, rfl, rfl, rfl, rfl, rfl, rfl, rfl, rfl, rfl⟩

theorem push_surroundings {s t : State} (h : SameSurroundings s t) (ms : List Micro) :
    SameSurroundings s (t.push ms) :=
  ⟨h.input, h.faults, h.refusals, h.t0Pin, h.t1Pin, h.t0Smp, h.t1Smp, h.icpPin, h.icpHist, h.icpFilt⟩

/-- The action of an operation in progress leaves its surroundings alone. -/
theorem microStep_surroundings {m : Micro} {s t : State} (h : microStep m s = .next t) : SameSurroundings s t := by
  cases m with
  | wr r d => obtain ⟨-, rfl⟩ := busWrite_next.mp h; exact writeEffect_surroundings s d r
  | reti =>
    obtain ⟨src, rest, -, rfl⟩ := doReti_next.mp h
    exact ⟨rfl, rfl, rfl, rfl, rfl, rfl, rfl, rfl, rfl, rfl⟩
  | invoke src =>
    obtain ⟨cb, -, rfl⟩ := doInvoke_next.mp h
    exact ⟨rfl, rfl, rfl, rfl, rfl, rfl, rfl, rfl, rfl, rfl⟩
  | slotStore src cb =>
    obtain rfl := Host.Outcome.next.inj h
    unfold State.doSlotStore
    split <;> exact ⟨rfl, rfl, rfl, rfl, rfl, rfl, rfl, rfl, rfl, rfl⟩
  | refuse r => cases h
  | rd r => obtain rfl := Host.Outcome.next.inj h; exact busRead_surroundings s r
  | rmw r keep v => obtain rfl := Host.Outcome.next.inj h; exact push_surroundings (busRead_surroundings s r) _
  | initCom n act => obtain rfl := Host.Outcome.next.inj h; exact push_surroundings (busRead_surroundings s _) _
  | initCom1 u act => obtain rfl := Host.Outcome.next.inj h; exact push_surroundings (busRead_surroundings s _) _
  | initCom1A u act w => obtain rfl := Host.Outcome.next.inj h; exact push_surroundings (busRead_surroundings s _) _
  | getTimer1L g => obtain rfl := Host.Outcome.next.inj h; exact push_surroundings (busRead_surroundings s _) _
  | poll n left => obtain rfl := Host.Outcome.next.inj h; exact push_surroundings (busRead_surroundings s _) _
  | getTimer8 n =>
    obtain rfl := Host.Outcome.next.inj h
    obtain ⟨h0, h1, h2, h3, h4, h5, h6, h7, h8, h9⟩ := busRead_surroundings s (tcntOf n)
    exact ⟨h0, h1, h2, h3, h4, h5, h6, h7, h8, h9⟩
  | getTimer1H g lo =>
    cases g <;> obtain rfl := Host.Outcome.next.inj h <;> exact ⟨rfl, rfl, rfl, rfl, rfl, rfl, rfl, rfl, rfl, rfl⟩
  | sei | cli | setTimer1 | getTimer1 | getTimer1Ret =>
    obtain rfl := Host.Outcome.next.inj h
    exact ⟨rfl, rfl, rfl, rfl, rfl, rfl, rfl, rfl, rfl, rfl⟩

/-! ### Recorded stops -/

/-- A recorded refusal code, in a run that had none. -/
theorem recordStop_code {r : Refusal} {s : State} (h : r.isCode = true) (hs : s.refusals = []) :
    recordStop (.refused r) s = { s with refusals := [r] } := by
  have he : (s.refusals.insert r) = [r] := by rw [hs]; rfl
  show (if r.isCode = true then { s with refusals := s.refusals.insert r } else s) = _
  rw [if_pos h, he]

/-- A recorded fault, in a run that had none. -/
theorem recordStop_fault {src : Source} {s : State} (hs : s.faults = []) :
    recordStop (.fault (.callbackEmpty src)) s = { s with faults := [.callbackEmpty src] } := by
  have he : s.faults.insert (.callbackEmpty src) = [.callbackEmpty src] := by rw [hs]; rfl
  show { s with faults := s.faults.insert (.callbackEmpty src) } = _
  rw [he]

end Sys2Proof.Machine
end

