-- ==== Sys2Proof/Laws/PerInstr.lean ====
section
/-! SUPPORT. The per-instruction family `RowCode`: the word `encode` writes for an action agrees with the match word of
its row of the opcode table under the row's mask (spec 30_encoding.md R116), for every operand. -/

namespace Sys2Proof.Laws.RowCode

/-- The word of i, under the mask of i's row, is the row's match word. -/
def Statement (i : Instr) : Prop := encode i &&& (rowOf i).mask = (rowOf i).code

/-! ### Masks, field by field -/

theorem and_ones (x : BitVec 4) : x &&& 15#4 = x := BitVec.and_allOnes

/-- `and` of two words is taken field by field. -/
theorem toWord_and (f g : Fields) :
    f.toWord &&& g.toWord =
      (Fields.mk (f.cls &&& g.cls) (f.op &&& g.op) (f.t &&& g.t) (f.u &&& g.u) (f.ch &&& g.ch)
        (f.payload &&& g.payload)).toWord := by
  unfold Fields.toWord
  refine BitVec.and_append.trans (congrArg (· ++ _) ?_)
  refine BitVec.and_append.trans (congrArg (· ++ _) ?_)
  refine BitVec.and_append.trans (congrArg (· ++ _) ?_)
  refine BitVec.and_append.trans (congrArg (· ++ _) ?_)
  exact BitVec.and_append

/-- A bus write's word, without its data byte. -/
theorem busWr_row (r : Reg) (d : Byte) :
    (busWrFields r d).toWord &&& 0xFFFFFFFFFF00#48 = (busWrFields r 0#8).toWord := by
  refine BitVec.eq_of_getLsbD_eq fun i hi => ?_
  simp only [busWrFields, plainFields, Fields.toWord, BitVec.getLsbD_and, BitVec.getLsbD_append]
  interval_cases i <;> simp

/-- A slot word, without its source and id. -/
theorem slot_row (op : BitVec 4) (src : BitVec 3) (cbid : Half) :
    (plainFields 4#4 op (0#13 ++ src ++ cbid)).toWord &&& 0xFFFFFFF80000#48 = (plainFields 4#4 op 0#32).toWord := by
  refine BitVec.eq_of_getLsbD_eq fun i hi => ?_
  simp only [plainFields, Fields.toWord, BitVec.getLsbD_and, BitVec.getLsbD_append]
  interval_cases i <;> simp

/-- A driver word with T, U and a payload p, under a mask that drops T and U and keeps the bits m of the payload. -/
theorem unit_row (op : BitVec 4) (t : TimerId) (u : CmpUnit) {p m c : BitVec 32} (h : p &&& m = c) :
    (timerFields op t u p).toWord &&& (Fields.mk 15#4 15#4 0#2 0#2 15#4 m).toWord =
      (Fields.mk 5#4 op 0#2 0#2 0#4 c).toWord := by
  rw [toWord_and]
  simp [timerFields, h, and_ones]

/-- The same for a row whose U must be 0. -/
theorem timer_row (op : BitVec 4) (t : TimerId) {p m c : BitVec 32} (h : p &&& m = c) :
    (timerFields op t .a p).toWord &&& (Fields.mk 15#4 15#4 0#2 3#2 15#4 m).toWord =
      (Fields.mk 5#4 op 0#2 0#2 0#4 c).toWord := by
  rw [toWord_and]
  simp [timerFields, encodeUnit, h, and_ones]

/-- The same for a row whose T must be 1 and U 0. -/
theorem timer1_row (op : BitVec 4) {p m c : BitVec 32} (h : p &&& m = c) :
    (timerFields op .t1 .a p).toWord &&& (Fields.mk 15#4 15#4 3#2 3#2 15#4 m).toWord =
      (Fields.mk 5#4 op 1#2 0#2 0#4 c).toWord := by
  rw [toWord_and]
  simp [timerFields, encodeUnit, encodeTimer, h, and_ones]

/-- A driver word with CH. -/
theorem channel_row (op : BitVec 4) (ch : Channel) {p m c : BitVec 32} (h : p &&& m = c) :
    (channelFields op ch p).toWord &&& (Fields.mk 15#4 15#4 3#2 3#2 0#4 m).toWord =
      (Fields.mk 5#4 op 0#2 0#2 0#4 c).toWord := by
  rw [toWord_and]
  simp [channelFields, h, and_ones]

/-- A 16-bit operand in bits 15:0 of the payload. -/
theorem low_payload (v : Half) : (0#16 ++ v : BitVec 32) &&& 0xFFFF0000#32 = 0#32 := by
  refine BitVec.eq_of_getLsbD_eq fun i hi => ?_
  simp only [BitVec.getLsbD_and, BitVec.getLsbD_append]
  interval_cases i <;> simp

/-- INIT's payload: bits 3:0 are 0. -/
theorem init_payload (count : Half) (mode clksel comact : BitVec 4) :
    (count ++ mode ++ clksel ++ comact ++ 0#4 : BitVec 32) &&& 0xF#32 = 0#32 := by
  refine BitVec.eq_of_getLsbD_eq fun i hi => ?_
  simp only [BitVec.getLsbD_and, BitVec.getLsbD_append]
  interval_cases i <;> simp

/-- PWM_WRITE's payload: the duty is in bits 7:0. -/
theorem duty_payload (duty : Byte) : (0#24 ++ duty : BitVec 32) &&& 0xFFFFFF00#32 = 0#32 := by
  refine BitVec.eq_of_getLsbD_eq fun i hi => ?_
  simp only [BitVec.getLsbD_and, BitVec.getLsbD_append]
  interval_cases i <;> simp

/-! ### One lemma per constructor -/

theorem rdTccr0 : Statement .rdTccr0 := rfl
theorem rdTcnt0 : Statement .rdTcnt0 := rfl
theorem rdOcr0 : Statement .rdOcr0 := rfl
theorem rdTccr2 : Statement .rdTccr2 := rfl
theorem rdTcnt2 : Statement .rdTcnt2 := rfl
theorem rdOcr2 : Statement .rdOcr2 := rfl
theorem rdAssr : Statement .rdAssr := rfl
theorem rdTccr1a : Statement .rdTccr1a := rfl
theorem rdTccr1b : Statement .rdTccr1b := rfl
theorem rdTcnt1h : Statement .rdTcnt1h := rfl
theorem rdTcnt1l : Statement .rdTcnt1l := rfl
theorem rdOcr1ah : Statement .rdOcr1ah := rfl
theorem rdOcr1al : Statement .rdOcr1al := rfl
theorem rdOcr1bh : Statement .rdOcr1bh := rfl
theorem rdOcr1bl : Statement .rdOcr1bl := rfl
theorem rdIcr1h : Statement .rdIcr1h := rfl
theorem rdIcr1l : Statement .rdIcr1l := rfl
theorem rdTimsk : Statement .rdTimsk := rfl
theorem rdTifr : Statement .rdTifr := rfl
theorem rdSfior : Statement .rdSfior := rfl
theorem wrTccr0 (d : Byte) : Statement (.wrTccr0 d) := (busWr_row .tccr0 d).trans rfl
theorem wrTcnt0 (d : Byte) : Statement (.wrTcnt0 d) := (busWr_row .tcnt0 d).trans rfl
theorem wrOcr0 (d : Byte) : Statement (.wrOcr0 d) := (busWr_row .ocr0 d).trans rfl
theorem wrTccr2 (d : Byte) : Statement (.wrTccr2 d) := (busWr_row .tccr2 d).trans rfl
theorem wrTcnt2 (d : Byte) : Statement (.wrTcnt2 d) := (busWr_row .tcnt2 d).trans rfl
theorem wrOcr2 (d : Byte) : Statement (.wrOcr2 d) := (busWr_row .ocr2 d).trans rfl
theorem wrAssr (d : Byte) : Statement (.wrAssr d) := (busWr_row .assr d).trans rfl
theorem wrTccr1a (d : Byte) : Statement (.wrTccr1a d) := (busWr_row .tccr1a d).trans rfl
theorem wrTccr1b (d : Byte) : Statement (.wrTccr1b d) := (busWr_row .tccr1b d).trans rfl
theorem wrTcnt1h (d : Byte) : Statement (.wrTcnt1h d) := (busWr_row .tcnt1h d).trans rfl
theorem wrTcnt1l (d : Byte) : Statement (.wrTcnt1l d) := (busWr_row .tcnt1l d).trans rfl
theorem wrOcr1ah (d : Byte) : Statement (.wrOcr1ah d) := (busWr_row .ocr1ah d).trans rfl
theorem wrOcr1al (d : Byte) : Statement (.wrOcr1al d) := (busWr_row .ocr1al d).trans rfl
theorem wrOcr1bh (d : Byte) : Statement (.wrOcr1bh d) := (busWr_row .ocr1bh d).trans rfl
theorem wrOcr1bl (d : Byte) : Statement (.wrOcr1bl d) := (busWr_row .ocr1bl d).trans rfl
theorem wrIcr1h (d : Byte) : Statement (.wrIcr1h d) := (busWr_row .icr1h d).trans rfl
theorem wrIcr1l (d : Byte) : Statement (.wrIcr1l d) := (busWr_row .icr1l d).trans rfl
theorem wrTimsk (d : Byte) : Statement (.wrTimsk d) := (busWr_row .timsk d).trans rfl
theorem wrTifr (d : Byte) : Statement (.wrTifr d) := (busWr_row .tifr d).trans rfl
theorem wrSfior (d : Byte) : Statement (.wrSfior d) := (busWr_row .sfior d).trans rfl
theorem clk : Statement .clk := rfl
theorem pinT0 (level : Bool) : Statement (.pinT0 level) := by cases level <;> rfl
theorem pinT1 (level : Bool) : Statement (.pinT1 level) := by cases level <;> rfl
theorem pinIcp1 (level : Bool) : Statement (.pinIcp1 level) := by cases level <;> rfl
theorem sei : Statement .sei := rfl
theorem cli : Statement .cli := rfl
theorem accept : Statement .accept := rfl
theorem reti : Statement .reti := rfl
theorem slotStore (src : Source) (cbid : Half) : Statement (.slotStore src cbid) := (slot_row 0#4 _ cbid).trans rfl
theorem invoke (src : Source) : Statement (.invoke src) := by cases src <;> rfl
theorem init (t : TimerId) (u : CmpUnit) (count : Half) (mode : BitVec 4) (clksel : BitVec 4) (comact : BitVec 4) : Statement (.init t u count mode clksel comact) :=
    unit_row 0#4 t u (init_payload count mode clksel comact)
theorem disable (t : TimerId) : Statement (.disable t) := timer_row 1#4 t (p := 0#32) (m := 0xFFFFFFFF#32) rfl
theorem setCompare (t : TimerId) (u : CmpUnit) (value : Half) : Statement (.setCompare t u value) :=
    unit_row 2#4 t u (low_payload value)
theorem setTimer (t : TimerId) (value : Half) : Statement (.setTimer t value) := timer_row 3#4 t (low_payload value)
theorem getTimer (t : TimerId) : Statement (.getTimer t) := timer_row 4#4 t (p := 0#32) (m := 0xFFFFFFFF#32) rfl
theorem delayMs (t : TimerId) (period : BitVec 32) : Statement (.delayMs t period) :=
    timer_row 5#4 t (m := 0#32) BitVec.and_zero
theorem enableOvfInt (t : TimerId) (cbid : Half) : Statement (.enableOvfInt t cbid) :=
    timer_row 6#4 t (low_payload cbid)
theorem enableCmpInt (t : TimerId) (u : CmpUnit) (cbid : Half) : Statement (.enableCmpInt t u cbid) :=
    unit_row 7#4 t u (low_payload cbid)
theorem enableCaptInt (cbid : Half) : Statement (.enableCaptInt cbid) := timer1_row 8#4 (low_payload cbid)
theorem disableOvfInt (t : TimerId) : Statement (.disableOvfInt t) :=
    timer_row 9#4 t (p := 0#32) (m := 0xFFFFFFFF#32) rfl
theorem disableCmpInt (t : TimerId) (u : CmpUnit) : Statement (.disableCmpInt t u) :=
    unit_row 10#4 t u (p := 0#32) (m := 0xFFFFFFFF#32) rfl
theorem disableCaptInt : Statement .disableCaptInt := rfl
theorem dispatch (src : Source) : Statement (.dispatch src) := by cases src <;> rfl
theorem pwmInit (ch : Channel) (freq : BitVec 32) : Statement (.pwmInit ch freq) :=
    channel_row 13#4 ch (m := 0#32) BitVec.and_zero
theorem pwmWrite (ch : Channel) (duty : Byte) : Statement (.pwmWrite ch duty) :=
    channel_row 14#4 ch (duty_payload duty)

end Sys2Proof.Laws.RowCode
end

