-- ==== Sys2Proof/Tests/Slice0.lean ====
section
/-! SUPPORT. Tests of the model on small states, words written out from the encoding tables, ill-formed terms, and a
concrete state that meets the hypotheses of each statement. Expected values come from spec/95_test_vectors.md (the
vector's number stands in the comment) or are worked out by hand from the rule named. -/

namespace Sys2Proof.Tests

open Sys2Proof Sys2Proof.Machine

/-! ### WellFormed: one ill-formed term for each check -/

theorem test_init_unit_b_of_timer0 : (Instr.init .t0 .b 0#16 0#4 0#4 0#4).wellFormed = false := by decide
theorem test_init_count_of_timer2 : (Instr.init .t2 .a 0x100#16 0#4 0#4 0#4).wellFormed = false := by decide
theorem test_setCompare_unit_b_of_timer2 : (Instr.setCompare .t2 .b 0#16).wellFormed = false := by decide
theorem test_setCompare_value_of_timer0 : (Instr.setCompare .t0 .a 0x100#16).wellFormed = false := by decide
theorem test_setTimer_value_of_timer0 : (Instr.setTimer .t0 0xFFFF#16).wellFormed = false := by decide
theorem test_delayMs_timer1 : (Instr.delayMs .t1 10#32).wellFormed = false := by decide
theorem test_enableCmpInt_unit_b_of_timer0 : (Instr.enableCmpInt .t0 .b 1#16).wellFormed = false := by decide
theorem test_disableCmpInt_unit_b_of_timer2 : (Instr.disableCmpInt .t2 .b).wellFormed = false := by decide
theorem test_ill_formed_words_do_not_decode :
    decode (encode (.init .t0 .b 0#16 0#4 0#4 0#4)) = none ∧ decode (encode (.setTimer .t2 0x100#16)) = none ∧
    decode (encode (.delayMs .t1 10#32)) = none := by decide

/-! ### Decoding: a word of every row, from R103 to R107 and R114 -/

/-- ADDR of R104 in bits 15:8. -/
theorem test_decode_bus_reads :
    [0x000000005300#48, 0x000000005200#48, 0x000000005C00#48, 0x000000004500#48, 0x000000004400#48,
      0x000000004300#48, 0x000000004200#48, 0x000000004F00#48, 0x000000004E00#48, 0x000000004D00#48,
      0x000000004C00#48, 0x000000004B00#48, 0x000000004A00#48, 0x000000004900#48, 0x000000004800#48,
      0x000000004700#48, 0x000000004600#48, 0x000000005900#48, 0x000000005800#48, 0x000000005000#48].map decode =
    [Instr.rdTccr0, .rdTcnt0, .rdOcr0, .rdTccr2, .rdTcnt2, .rdOcr2, .rdAssr, .rdTccr1a, .rdTccr1b, .rdTcnt1h,
      .rdTcnt1l, .rdOcr1ah, .rdOcr1al, .rdOcr1bh, .rdOcr1bl, .rdIcr1h, .rdIcr1l, .rdTimsk, .rdTifr, .rdSfior].map
      some := by decide

/-- CLASS 1, ADDR in bits 15:8, DATA in bits 7:0. -/
theorem test_decode_bus_writes :
    [0x100000005319#48, 0x100000005210#48, 0x100000005C03#48, 0x10000000456F#48, 0x100000004401#48,
      0x100000004340#48, 0x100000004208#48, 0x100000004F81#48, 0x100000004E0A#48, 0x100000004D12#48,
      0x100000004C34#48, 0x100000004B01#48, 0x100000004AF4#48, 0x1000000049AB#48, 0x10000000487F#48,
      0x10000000479C#48, 0x10000000463F#48, 0x100000005981#48, 0x1000000058FF#48, 0x100000005005#48].map decode =
    [Instr.wrTccr0 0x19#8, .wrTcnt0 0x10#8, .wrOcr0 0x03#8, .wrTccr2 0x6F#8, .wrTcnt2 0x01#8, .wrOcr2 0x40#8,
      .wrAssr 0x08#8, .wrTccr1a 0x81#8, .wrTccr1b 0x0A#8, .wrTcnt1h 0x12#8, .wrTcnt1l 0x34#8, .wrOcr1ah 0x01#8,
      .wrOcr1al 0xF4#8, .wrOcr1bh 0xAB#8, .wrOcr1bl 0x7F#8, .wrIcr1h 0x9C#8, .wrIcr1l 0x3F#8, .wrTimsk 0x81#8,
      .wrTifr 0xFF#8, .wrSfior 0x05#8].map some := by decide

/-- Vectors 2.1.4 to 2.1.10. -/
theorem test_decode_event_core_slot :
    [0x200000000000#48, 0x210000000001#48, 0x220000000000#48, 0x230000000001#48, 0x300000000000#48,
      0x310000000000#48, 0x320000000000#48, 0x330000000000#48, 0x400000050009#48, 0x410000070000#48].map decode =
    [Instr.clk, .pinT0 true, .pinT1 false, .pinIcp1 true, .sei, .cli, .accept, .reti, .slotStore .t1Capt 9#16,
      .invoke .t2Comp].map some := by decide

/-- Vectors 2.1.11 to 2.1.19, and one word by hand for each other row of R114. -/
theorem test_decode_driver :
    [0x500000002310#48, 0x50501234E120#48, 0x508000002730#48, 0x514000000000#48, 0x5250000001F4#48,
      0x53400000FFFE#48, 0x548000000000#48, 0x5580000003E8#48, 0x560000000007#48, 0x575000001234#48,
      0x58400000ABCD#48, 0x598000000000#48, 0x5A5000000000#48, 0x5B4000000000#48, 0x5C0000000005#48,
      0x5D01000003E8#48, 0x5E0300000064#48].map decode =
    [Instr.init .t0 .a 0#16 2#4 3#4 1#4, .init .t1 .b 0x1234#16 14#4 1#4 2#4, .init .t2 .a 0#16 2#4 7#4 3#4,
      .disable .t1, .setCompare .t1 .b 0x01F4#16, .setTimer .t1 0xFFFE#16, .getTimer .t2, .delayMs .t2 1000#32,
      .enableOvfInt .t0 7#16, .enableCmpInt .t1 .b 0x1234#16, .enableCaptInt 0xABCD#16, .disableOvfInt .t2,
      .disableCmpInt .t1 .b, .disableCaptInt, .dispatch .t1Capt, .pwmInit .ch1 1000#32, .pwmWrite .ch3 100#8].map
      some := by decide

/-- Vectors 2.1.20 to 2.1.32. -/
theorem test_illegal_words :
    [0x600000000000#48, 0x5F0000000000#48, 0x55400000000A#48, 0x50C000000000#48, 0x501000000000#48,
      0x5E0400000000#48, 0x520000000100#48, 0x000000005700#48, 0x000000005301#48, 0x240000000000#48,
      0x210000000002#48, 0x420000000000#48, 0x5C0000000008#48].all (fun w => (decode w).isNone) = true := by decide

/-- The host's entry numbers bits from the least significant one; a shorter row leaves the upper bits 0. -/
theorem test_decodeTableWord : decodeTableWord 48 0x5E0300000064 = some (.pwmWrite .ch3 100#8) ∧
    decodeTableWord 16 0xFFFF00005300 = some .rdTccr0 := by decide

/-! ### Small states and views of outcomes -/

/-- A view of the state an action leaves. -/
def after (r : Result) (f : State → α) : Option α :=
  match r with
  | .next t => some (f t)
  | _ => none

/-- Why an action is refused. -/
def refusalOf (r : Result) : Option Refusal :=
  match r with
  | .refused c => some c
  | _ => none

/-- Why an action faults. -/
def faultOf (r : Result) : Option Fault :=
  match r with
  | .fault c => some c
  | _ => none

/-- The reset state with one timer replaced. -/
def on0 (t : Timer8) : State := { State.reset with t0 := t }
def on1 (t : Timer1) : State := { State.reset with t1 := t }
def on2 (t : Timer8) : State := { State.reset with t2 := t }

/-- Timers in a given mode, action and clock select, otherwise as after reset. -/
def t8 (wgm com : BitVec 2) (cs : BitVec 3) : Timer8 := { Timer8.reset with wgm := wgm, com := com, cs := cs }
def t1In (wgm : BitVec 4) : Timer1 := { Timer1.resetWith 0#8 with wgm := wgm, cs := 1#3 }

/-! ### Bus reads and writes -/

/-- Vector 2.2.1. -/
theorem test_rdTccr0 : after (exec .rdTccr0 (on0 (t8 3#2 2#2 2#3))) (·.rdata) = some 0x6A#8 := by decide
/-- Vector 2.2.7. -/
theorem test_rdTccr2 : after (exec .rdTccr2 (on2 (t8 0#2 0#2 7#3))) (·.rdata) = some 0x07#8 := by decide
/-- Vector 2.2.12. -/
theorem test_rdTccr1b :
    after (exec .rdTccr1b (on1 { t1In 4#4 with ices := true })) (·.rdata) = some 0x49#8 := by decide
/-- R170 by hand: COM1A = 10, COM1B = 11, WGM11:10 = 01. -/
theorem test_rdTccr1a :
    after (exec .rdTccr1a (on1 { t1In 5#4 with comA := 2#2, comB := 3#2 })) (·.rdata) = some 0xB1#8 := by decide
/-- Vector 2.2.16: the wrong read order. -/
theorem test_rdTcnt1h :
    after (exec .rdTcnt1h (on1 { t1In 0#4 with tcnt := 0x12FF#16, temp := 0x55#8 })) (·.rdata) = some 0x55#8 := by
  decide
theorem test_rdTcnt1l :
    after (exec .rdTcnt1l (on1 { t1In 0#4 with tcnt := 0x12FF#16, temp := 0x55#8 }))
      (fun t => (t.rdata, t.t1.temp)) = some (0xFF#8, 0x12#8) := by decide
/-- Vector 2.2.18. -/
theorem test_rdOcr1ah :
    after (exec .rdOcr1ah (on1 { t1In 0#4 with ocrABuf := 0x01F4#16, temp := 0x77#8 }))
      (fun t => (t.rdata, t.t1.temp)) = some (0x01#8, 0x77#8) := by decide
/-- Vector 2.2.22. -/
theorem test_rdIcr1l :
    after (exec .rdIcr1l (on1 { t1In 0#4 with icr := 0x0A0B#16 })) (fun t => (t.rdata, t.t1.temp)) =
      some (0x0B#8, 0x0A#8) := by decide
/-- Vector 2.2.2. -/
theorem test_wrTccr0 :
    after (exec (.wrTccr0 0x19#8) .reset) (fun t => (t.t0.wgm, t.t0.com, t.t0.cs)) = some (2#2, 1#2, 1#3) := by decide
/-- R266 by hand: a strobe with COM0 = 11 in Normal mode sets the latch; in Fast PWM it has no effect. -/
theorem test_wrTccr0_force :
    after (exec (.wrTccr0 0xB0#8) .reset) (·.t0.oc) = some true ∧
    after (exec (.wrTccr0 0xF8#8) .reset) (·.t0.oc) = some false := by decide
/-- Vector 2.2.3. -/
theorem test_wrTcnt0 :
    after (exec (.wrTcnt0 0x10#8) .reset) (fun t => (t.t0.tcnt, t.t0.blk)) = some (0x10#8, true) := by decide
/-- Vectors 2.2.4 and 2.2.5. -/
theorem test_wrOcr0 :
    after (exec (.wrOcr0 0x10#8) .reset) (fun t => (t.t0.ocrBuf, t.t0.ocrAct)) = some (0x10#8, 0x10#8) ∧
    after (exec (.wrOcr0 0x7F#8) (on0 (t8 3#2 0#2 0#3))) (fun t => (t.t0.ocrBuf, t.t0.ocrAct)) =
      some (0x7F#8, 0x00#8) := by decide
/-- Vector 2.2.8. -/
theorem test_wrTccr2 :
    after (exec (.wrTccr2 0x6F#8) .reset) (fun t => (t.t2.wgm, t.t2.com, t.t2.cs)) = some (3#2, 2#2, 7#3) := by decide
/-- Vectors 2.2.9 and 2.2.10. -/
theorem test_wrAssr :
    refusalOf (exec (.wrAssr 0x08#8) .reset) = some (.asyncT2 0x08#8) ∧
    after (exec (.wrAssr 0x00#8) .reset) (·.as2) = some false := by decide
/-- Vector 2.2.11. -/
theorem test_wrTccr1a :
    after (exec (.wrTccr1a 0x81#8) (on1 (t1In 4#4))) (fun t => (t.t1.wgm, t.t1.comA)) = some (5#4, 2#2) := by decide
/-- Vector 2.2.13. -/
theorem test_wrTccr1b :
    after (exec (.wrTccr1b 0x0A#8) .reset) (fun t => (t.t1.wgm, t.t1.cs)) = some (4#4, 2#3) := by decide
/-- Vector 2.9.3. -/
theorem test_wrTcnt1l :
    after (exec (.wrTcnt1l 0x34#8) (on1 { t1In 0#4 with temp := 0x5A#8 })) (fun t => (t.t1.tcnt, t.t1.blk)) =
      some (0x5A34#16, true) := by decide
/-- Vector 2.2.17. -/
theorem test_wrOcr1al :
    after (exec (.wrOcr1al 0xF4#8) (on1 { t1In 0#4 with temp := 0x01#8 }))
      (fun t => (t.t1.ocrABuf, t.t1.ocrAAct)) = some (0x01F4#16, 0x01F4#16) := by decide
/-- Vector 2.2.19. -/
theorem test_wrOcr1bl :
    after (exec (.wrOcr1bl 0x7F#8) (on1 (t1In 5#4))) (fun t => (t.t1.ocrBBuf, t.t1.ocrBAct)) =
      some (0x007F#16, 0x0000#16) := by decide
/-- Vectors 2.2.20 and 2.2.21. -/
theorem test_wrIcr1l :
    after (exec (.wrIcr1l 0x3F#8) (on1 { t1In 14#4 with temp := 0x9C#8 })) (·.t1.icr) = some 0x9C3F#16 ∧
    after (exec (.wrIcr1l 0x3F#8) (on1 { t1In 0#4 with temp := 0x9C#8 })) (·.t1.icr) = some 0#16 := by decide
/-- Vectors 2.2.24 to 2.2.26. -/
theorem test_wrTifr :
    after (exec (.wrTifr 0x01#8) { State.reset with tifr := 0x05#8 }) (·.tifr) = some 0x04#8 ∧
    after (exec (.wrTifr 0x00#8) { State.reset with tifr := 0x05#8 }) (·.tifr) = some 0x05#8 ∧
    after (exec (.wrTifr 0xFF#8) .reset) (·.tifr) = some 0x00#8 := by decide
/-- Vector 2.2.27. -/
theorem test_wrSfior :
    after (exec (.wrSfior 0x05#8) { State.reset with p01 := 5#10, p2 := 6#10 })
      (fun t => (t.readValue .sfior, t.p01, t.p2)) = some (0x04#8, 0#10, 6#10) := by decide

/-! ### Clock and pins -/

/-- Vector 2.3.1, its CLK. -/
theorem test_clk_counts :
    after (exec .clk (on0 (t8 0#2 0#2 1#3))) (fun t => (t.t0.tcnt, t.p01)) = some (1#8, 1#10) := by decide
/-- Vectors 2.3.5 and 2.3.6: the CLK that takes P01 from 1023 to 0 ticks a timer at clk_io/1024, an earlier one does
not. -/
theorem test_clk_prescaled :
    after (exec .clk { on0 (t8 0#2 0#2 5#3) with p01 := 1022#10 }) (fun t => (t.t0.tcnt, t.p01)) =
      some (0#8, 1023#10) ∧
    after (exec .clk { on0 (t8 0#2 0#2 5#3) with p01 := 1023#10 }) (fun t => (t.t0.tcnt, t.p01)) =
      some (1#8, 0#10) := by decide
/-- Vector 2.3.14. -/
theorem test_clk_ctc_at_max :
    after (exec .clk (on0 { t8 2#2 0#2 1#3 with tcnt := 0xFF#8, ocrBuf := 0xFF#8, ocrAct := 0xFF#8 }))
      (fun t => (t.t0.tcnt, t.tifr)) = some (0x00#8, 0x03#8) := by decide
/-- Vector 2.3.17: a counter write blocks the match of the next tick. -/
theorem test_clk_blocked_match :
    after (exec .clk (on0 { t8 0#2 0#2 1#3 with tcnt := 0x10#8, ocrBuf := 0x10#8, ocrAct := 0x10#8, blk := true }))
      (fun t => (t.t0.tcnt, t.t0.blk, t.tifr)) = some (0x11#8, false, 0#8) := by decide
/-- Program P1, its fourth tick: OC0 toggles on leaving 3. -/
theorem test_clk_toggle :
    after (exec .clk (on0 { t8 2#2 1#2 1#3 with tcnt := 3#8, ocrBuf := 3#8, ocrAct := 3#8 }))
      (fun t => (t.t0.tcnt, t.t0.oc, t.tifr)) = some (0#8, true, 0x02#8) := by decide
/-- Program P5, its 256th tick. -/
theorem test_clk_fast_wrap :
    after (exec .clk (on0 { t8 3#2 2#2 1#3 with tcnt := 0xFF#8, ocrBuf := 0x7F#8 }))
      (fun t => (t.t0.tcnt, t.t0.oc, t.t0.ocrAct, t.tifr)) = some (0#8, true, 0x7F#8, 0x01#8) := by decide
/-- R242 by hand: phase correct, leaving BOTTOM while counting down sets TOV2 and turns up. -/
theorem test_clk_phase_correct_bottom :
    after (exec .clk (on2 { t8 1#2 0#2 1#3 with dir := .down, ocrAct := 9#8 }))
      (fun t => (t.t2.tcnt, t.t2.dir, t.tifr)) = some (1#8, .up, 0x40#8) := by decide
/-- Program P7, its second CLK: ICR1 takes the count before the step. -/
theorem test_clk_capture :
    after (exec .clk { on1 { t1In 0#4 with ices := true, tcnt := 1#16 } with icpPin := true })
      (fun t => (t.t1.icr, t.t1.tcnt, t.tifr)) = some (1#16, 2#16, 0x20#8) := by decide
/-- Vector 2.8.3: every code, and nothing else happens. -/
theorem test_clk_wgm_reserved :
    refusalOf (exec .clk (on1 (t1In 13#4))) = some (.clockRefused [.wgmReserved]) := by decide
/-- Vectors 2.8.5 to 2.8.8. -/
theorem test_clk_other_refusals :
    refusalOf (exec .clk (on0 (t8 3#2 1#2 1#3))) = some (.clockRefused [.comReserved .t0]) ∧
    refusalOf (exec .clk (on1 { t1In 10#4 with icr := 0x100#16, tcnt := 0x200#16 })) =
      some (.clockRefused [.pwmAboveTop .t1 0x200#16 0x100#16]) ∧
    refusalOf (exec .clk (on1 { t1In 14#4 with icr := 2#16 })) = some (.clockRefused [.topTooSmall 2#16]) ∧
    after (exec .clk (on1 { t1In 14#4 with icr := 3#16 })) (·.t1.tcnt) = some 1#16 := by decide
/-- Vectors 2.3.9 and 2.3.11: the edge is seen by the CLK that samples it. -/
theorem test_pinT0_rising :
    after (exec (.pinT0 true) (on0 (t8 0#2 0#2 7#3))) (fun t => after (exec .clk t) (·.t0.tcnt)) =
      some (some 1#8) := by decide

/-! ### Interrupts and callbacks -/

/-- TOV0 and OCF2 pending, GIE = 1 (program P6, action 10). -/
def twoPending : State := { State.reset with tifr := 0x81#8, timsk := 0x81#8, gie := true }

/-- Program P6, action 11. -/
theorem test_accept_priority :
    after (exec .accept twoPending) (fun t => (t.tifr, t.gie, t.isr, t.vector)) =
      some (0x01#8, false, [.t2Comp], 0x008#16) := by decide
/-- R332: not in the shadow, and not with GIE = 0. -/
theorem test_accept_not_enabled :
    { twoPending with shadow := true }.acceptEnabled = false ∧ { twoPending with gie := false }.acceptEnabled = false ∧
    { twoPending with timsk := 0x7E#8 }.acceptEnabled = false := by decide
/-- Program P2, action 7f. -/
theorem test_reti :
    after (exec .reti { State.reset with isr := [.t0Ovf, .t1Capt] }) (fun t => (t.isr, t.gie, t.shadow)) =
      some ([.t1Capt], true, true) := by decide
/-- Vector 2.8.12. -/
theorem test_reti_unmatched : refusalOf (exec .reti .reset) = some .retiUnmatched := by decide
/-- R335, R337. -/
theorem test_sei_cli :
    after (exec .sei .reset) (fun t => (t.gie, t.shadow)) = some (true, true) ∧
    after (exec .cli twoPending) (·.gie) = some false := by decide
/-- R336; the null id is vector P8, action 1. -/
theorem test_slotStore :
    after (exec (.slotStore .t1Capt 9#16) .reset) (fun t => slotOf t.slots .t1Capt) = some (some 9#16) ∧
    after (exec (.slotStore .t1Capt 0#16) .reset) (fun t => slotOf t.slots .t1Capt) = some none := by decide
/-- Program P8, action 7. -/
theorem test_invoke_empty : faultOf (exec (.invoke .t0Ovf) .reset) = some (.callbackEmpty .t0Ovf) := by decide

/-! ### Driver calls: the action a call begins with, or a whole short run -/

/-- The state after k steps that issue only i. -/
def called (k : Nat) (i : Instr) (s : State) (f : State → α) : Option α := after (runSteps k (s.calling i)) f

/-- 2.4 by hand from R301: INIT T0, 0, CTC, DIV64, TOGGLE from reset gives TCCR0 = 0x1B. -/
theorem test_init_timer0 :
    called 7 (.init .t0 .a 0#16 2#4 3#4 1#4) .reset (fun t => (t.readValue .tccr0, t.t0.blk, t.pending)) =
      some (0x1B#8, true, []) := by decide
/-- By hand from R303: TOGGLE is refused in Fast PWM, the mode is written. -/
theorem test_init_toggle_in_pwm :
    called 6 (.init .t0 .a 0#16 3#4 1#4 1#4) .reset (fun t => (t.readValue .tccr0, t.pending)) =
      some (0x49#8, []) := by decide
/-- By hand from R302: INIT T1.B, 0x1234, WGM14, DIV1, CLEAR gives TCCR1A = 0x22, TCCR1B = 0x19. -/
theorem test_init_timer1 :
    called 11 (.init .t1 .b 0x1234#16 14#4 1#4 2#4) .reset
      (fun t => (t.readValue .tccr1a, t.readValue .tccr1b, t.t1.tcnt, t.pending)) =
      some (0x22#8, 0x19#8, 0x1234#16, []) := by decide
/-- R304. -/
theorem test_disable :
    called 4 (.disable .t0) (on0 (t8 2#2 1#2 1#3)) (fun t => (t.readValue .tccr0, t.pending)) =
      some (0x08#8, []) := by decide
/-- R305: high byte first. -/
theorem test_setCompare :
    called 2 (.setCompare .t1 .b 0x01F4#16) .reset (fun t => (t.t1.ocrBBuf, t.t1.ocrBAct, t.t1.temp)) =
      some (0x01F4#16, 0x01F4#16, 0x01#8) := by decide
/-- R306: GIE is off between the two writes and back on at the end. -/
theorem test_setTimer :
    called 2 (.setTimer .t1 0x1234#16) { State.reset with gie := true } (fun t => (t.gie, t.t1.temp)) =
      some (false, 0x12#8) ∧
    called 4 (.setTimer .t1 0x1234#16) { State.reset with gie := true }
      (fun t => (t.gie, t.shadow, t.t1.tcnt)) = some (true, true, 0x1234#16) := by decide
/-- R307. -/
theorem test_getTimer :
    called 3 (.getTimer .t1) (on1 { t1In 0#4 with tcnt := 0x12FF#16 }) (fun t => (t.result, t.gie)) =
      some (0x12FF#16, false) := by decide
/-- Program P2, action 1, and P8, action 1. -/
theorem test_enableOvfInt :
    called 5 (.enableOvfInt .t0 7#16) .reset (fun t => (slotOf t.slots .t0Ovf, t.timsk, t.gie, t.shadow)) =
      some (some 7#16, 0x01#8, true, true) ∧
    called 5 (.enableOvfInt .t0 0#16) .reset (fun t => (slotOf t.slots .t0Ovf, t.timsk)) =
      some (none, 0x01#8) := by decide
/-- R346 and R349: OCIE1B is bit 3. -/
theorem test_cmpInt :
    called 5 (.enableCmpInt .t1 .b 7#16) .reset (fun t => (slotOf t.slots .t1CompB, t.timsk)) =
      some (some 7#16, 0x08#8) ∧
    called 2 (.disableCmpInt .t1 .a) { State.reset with timsk := 0xFF#8 } (·.timsk) = some 0xEF#8 := by decide
/-- R341: DISPATCH begins with CLI. -/
theorem test_dispatch :
    called 1 (.dispatch .t0Ovf) { State.reset with gie := true } (fun t => (t.gie, t.pending.length)) =
      some (false, 3) := by decide
/-- Vectors 2.7.8, 2.7.12 and 2.8.11. -/
theorem test_pwmWrite :
    called 1 (.pwmWrite .ch0 75#8) .reset (·.t0.ocrBuf) = some 0xBF#8 ∧
    refusalOf (exec (.pwmWrite .ch2 101#8) .reset) = some (.pwmDutyRange .ch2 101#8) := by decide
/-- Vector 2.8.10. -/
theorem test_pwmInit_zero : refusalOf (exec (.pwmInit .ch1 0#32) .reset) = some (.pwmFreqZero .ch1) := by decide
/-- Program P5: 8 000 000 Hz and 500 Hz give divisor 8; vector 2.7.6: 40 000 Hz falls back to 1. -/
theorem test_pwm_divisor : pwmDivisor 8000000 500 = 8 ∧ pwmDivisor 8000000 40000 = 1 := by decide
/-- 1.2: 256 000 Hz counts 1 ms in one overflow; 8 MHz and 1 MHz for 1000 ms. -/
theorem test_delay_count :
    delayCount 256000 2 = 2 ∧ delayCount 8000000 1000 = 31250 ∧ delayCount 1000000 1000 = 3906 := by decide
/-- DELAY_MS begins with the write of its counter; 2.1 of R117: it has no form on Timer1. -/
theorem test_delayMs :
    after (exec (.delayMs .t2 1000#32) (on2 { Timer8.reset with tcnt := 9#8 })) (fun t => (t.t2.tcnt, t.t2.blk)) =
      some (0#8, true) ∧
    refusalOf (exec (.delayMs .t1 1000#32) .reset) = some .illFormed := by decide

/-- A word placed by the host is the very next step, from reset. -/
theorem test_withFetchWord :
    after (step (State.reset.withFetchWord 48 0x100000005319)) (fun t => (t.readValue .tccr0, t.input)) =
      some (0x19#8, []) ∧
    refusalOf (step (State.reset.withFetchWord 48 0x600000000000)) = some (.decodeInvalid 0x600000000000#48) := by
  decide

/-! ### Witnesses: a concrete state and operands that meet the hypotheses of each statement -/

theorem witness_DecodeOfEncode : (Instr.init .t1 .b 0xFFFF#16 15#4 15#4 15#4).wellFormed = true ∧
    (Instr.setTimer .t0 0xFF#16).wellFormed = true := by decide

theorem witness_EncodeOfDecode : decode 0x53400000FFFE#48 = some (.setTimer .t1 0xFFFE#16) := by decide

theorem witness_LegalWordsMatchARow : decode 0x50501234E120#48 = some (.init .t1 .b 0x1234#16 14#4 1#4 2#4) := by
  decide

/-- The four clauses: a clock during an operation, a clock that waits, a CPU action, ACCEPT in both of its cases. -/
theorem witness_StepRunsTheDecodedAction :
    (decode 0x200000000000#48 = some .clk ∧ Instr.clk.isEnvironment = true ∧
      { State.reset with input := [.during 0x200000000000#48], pending := [.sei] }.input =
        .during 0x200000000000#48 :: []) ∧
    ({ State.reset with input := [.word 0x200000000000#48] }.pending = []) ∧
    (decode 0x300000000000#48 = some .sei ∧ Instr.sei.isEnvironment = false ∧ Instr.sei ≠ .accept ∧
      { State.reset with input := [.word 0x300000000000#48] }.acceptEnabled = false) ∧
    (decode 0x320000000000#48 = some .accept ∧
      { twoPending with input := [.word 0x320000000000#48], pending := [.sei] }.acceptEnabled = true ∧
      { State.reset with input := [.during 0x320000000000#48] }.pending = []) ∧
    State.reset.faults = [] ∧ State.reset.refusals = [] := by decide

theorem witness_IllegalWordIsRefused :
    decode 0xFFFFFFFFFFFF#48 = none ∧ State.reset.faults = [] ∧ State.reset.refusals = [] ∧
    { State.reset with input := [.word 0xFFFFFFFFFFFF#48] }.input = .word 0xFFFFFFFFFFFF#48 :: [] := by decide

theorem witness_AcceptGoesFirst :
    twoPending.acceptEnabled = true ∧ twoPending.input = [] ∧
    { twoPending with input := [.cpu] }.acceptEnabled = true ∧
    { twoPending with input := [.word 0x300000000000#48] }.acceptEnabled = true ∧
    decode 0x300000000000#48 = some .sei ∧
    ({ twoPending with input := [.word 0x200000000000#48], pending := [.cli] }.acceptEnabled = true ∧
      decode 0x200000000000#48 = some .clk ∧ Instr.clk.isEnvironment = true ∧ [Micro.cli] ≠ []) := by decide

/-- An operation in progress with each kind of input, and an idle CPU. -/
theorem witness_OperationGoesOnInOrder :
    (∀ inp ∈ [[], [Input.cpu], [.word 0x200000000000#48], [.during 0x300000000000#48]],
      ({ State.reset with input := inp, pending := [.sei] } : State).acceptEnabled = false) ∧
    decode 0x200000000000#48 = some .clk ∧ decode 0x300000000000#48 = some .sei ∧
    ({ State.reset with input := [.cpu] } : State).pending = [] ∧ State.reset.input = [] := by decide

theorem witness_StoppedRunStaysStopped :
    step { State.reset with input := [.word 0x330000000000#48] } = .refused .retiUnmatched ∧
    Refusal.retiUnmatched.isCode = true ∧
    step { State.reset with input := [.word 0x410000000000#48] } = .fault (.callbackEmpty .t0Ovf) :=
  ⟨rfl, rfl, rfl⟩

theorem reset_inv : Inv State.reset :=
  ⟨⟨fun _ => rfl, fun _ => rfl, fun _ => rfl, fun _ => rfl⟩, rfl, fun src => by cases src <;> decide, rfl, rfl, rfl⟩

/-- A step of a state with an outstanding interrupt that the invariant covers. -/
theorem witness_StepKeepsInvariant :
    ∃ s t : State, Inv s ∧ s.pending = [.sei, .reti] ∧ s.isr = [.t0Ovf] ∧ step s = .next t :=
  ⟨{ State.reset with pending := [.sei, .reti], isr := [.t0Ovf] }, _,
    ⟨⟨fun _ => rfl, fun _ => rfl, fun _ => rfl, fun _ => rfl⟩, rfl, fun src => by cases src <;> decide, rfl, rfl, rfl⟩,
    rfl, rfl, rfl⟩

/-- The clause of the draw: no falling edge. -/
theorem witness_ClocksAfterReset :
    Draw.zero.icpFilt = false ∧ { Draw.zero with icpFilt := true, icpPin := true }.icpPin = true := by decide

/-- The count runs between the two reads (vector 2.2.15), and ICR1 likewise. -/
theorem witness_SixteenBitReadIsOneValue :
    ∃ s s1 s2 s3 r1 r2 r3 : State, s.t1.tcnt = 0x12FF#16 ∧
      exec .rdTcnt1l s = .next s1 ∧ clocks 1 s1 = .next s2 ∧ exec .rdTcnt1h s2 = .next s3 ∧
      s2.t1.tcnt = 0x1300#16 ∧
      exec .rdIcr1l s = .next r1 ∧ clocks 1 r1 = .next r2 ∧ exec .rdIcr1h r2 = .next r3 :=
  ⟨on1 { t1In 0#4 with tcnt := 0x12FF#16, icr := 0x0A0B#16 }, _, _, _, _, _, _, rfl, rfl, rfl, rfl, rfl, rfl, rfl, rfl⟩

theorem witness_SixteenBitWriteIsOneValue :
    ∃ s : State, s.t1.wgm ∈ [8#4, 10#4, 12#4, 14#4] ∧
      (∃ s1 s2 s3, exec (.wrTcnt1h 0x12#8) s = .next s1 ∧ clocks 2 s1 = .next s2 ∧
        exec (.wrTcnt1l 0x34#8) s2 = .next s3) ∧
      (∃ s1 s2 s3, exec (.wrOcr1ah 0x12#8) s = .next s1 ∧ clocks 2 s1 = .next s2 ∧
        exec (.wrOcr1al 0x34#8) s2 = .next s3) ∧
      (∃ s1 s2 s3, exec (.wrOcr1bh 0x12#8) s = .next s1 ∧ clocks 2 s1 = .next s2 ∧
        exec (.wrOcr1bl 0x34#8) s2 = .next s3) ∧
      (∃ s1 s2 s3, exec (.wrIcr1h 0x12#8) s = .next s1 ∧ clocks 2 s1 = .next s2 ∧
        exec (.wrIcr1l 0x34#8) s2 = .next s3) :=
  ⟨on1 (t1In 12#4), by decide, ⟨_, _, _, rfl, rfl, rfl⟩, ⟨_, _, _, rfl, rfl, rfl⟩, ⟨_, _, _, rfl, rfl, rfl⟩,
    ⟨_, _, _, rfl, rfl, rfl⟩⟩

theorem witness_SixteenBitRegisterWrites :
    (0x12FF#16 : Half).toNat = 256 * (on1 { t1In 0#4 with temp := 0x12#8 }).t1.temp.toNat + (0xFF#8 : Byte).toNat := by
  decide

theorem witness_WriteThenReadBack :
    (∃ t, exec (Reg.ocr0.writeInstr 0xFF#8) State.reset = .next t) ∧
    (Reg.ocr0, 0xFF#8) ∈ [(Reg.tccr0, 0x7F#8), (.tcnt0, 0xFF#8), (.ocr0, 0xFF#8)] ∧
    (∃ t, exec (.wrTifr 0xFF#8) State.reset = .next t) ∧
    (∃ t, exec (.wrIcr1l 0xFF#8) (on1 (t1In 8#4)) = .next t) :=
  ⟨⟨_, rfl⟩, by decide, ⟨_, rfl⟩, ⟨_, rfl⟩⟩

theorem witness_WritesLeaveOtherRegisters :
    ∃ t, exec (Reg.ocr1al.writeInstr 0xFF#8) State.reset = .next t ∧ Reg.tccr1a ≠ Reg.ocr1al ∧
      ¬(Reg.ocr1al ∈ [Reg.tcnt1h, .ocr1ah, .ocr1bh, .icr1h] ∧ Reg.tccr1a ∈ [Reg.tcnt1h, .icr1h]) ∧
      ¬(Reg.ocr1al = .ocr1al ∧ Reg.tccr1a = .ocr1ah) ∧ ¬(Reg.ocr1al = .ocr1bl ∧ Reg.tccr1a = .ocr1bh) :=
  ⟨_, rfl, by decide⟩

theorem witness_ClkFrame :
    ∃ t, exec .clk State.reset = .next t ∧ State.reset.ticks8 .t0 = false ∧ State.reset.ticks8 .t2 = false ∧
      tick1 State.reset = false :=
  ⟨_, rfl, by decide, by decide, by decide⟩

theorem witness_TickGeneration :
    (State.reset.timer8 .t0).cs = 0#3 ∧ State.reset.t1.cs = 0#3 ∧
    divisor8 .t0 ((on0 (t8 0#2 0#2 5#3)).timer8 .t0).cs.toNat = some 1024 ∧
    divisor8 .t2 ((on2 (t8 0#2 0#2 7#3)).timer8 .t2).cs.toNat = some 1024 ∧
    divisor8 .t0 (on1 (t1In 0#4)).t1.cs.toNat = some 1 ∧
    (on0 (t8 0#2 0#2 6#3)).t0.cs = 6#3 ∧ (on0 (t8 0#2 0#2 7#3)).t0.cs = 7#3 ∧
    (on1 { t1In 0#4 with cs := 6#3 }).t1.cs = 6#3 ∧ (on1 { t1In 0#4 with cs := 7#3 }).t1.cs = 7#3 := by decide

theorem witness_TopOfEveryMode :
    (t8 2#2 0#2 0#3).wgm = 2#2 ∧ (t8 3#2 0#2 0#3).wgm ≠ 2#2 ∧ (t1In 0#4).wgm = 0#4 ∧ (t1In 5#4).wgm = 5#4 ∧
    (t1In 2#4).wgm = 2#4 ∧ (t1In 3#4).wgm = 3#4 ∧ (t1In 15#4).wgm ∈ [4#4, 9#4, 11#4, 15#4] ∧
    (t1In 8#4).wgm ∈ [8#4, 10#4, 12#4, 14#4] := by decide

/-- Normal mode at 0xFF, and CTC at the compare value. -/
theorem witness_NormalAndCtcTickOfTimer8 :
    (∃ t, exec .clk (on0 { t8 0#2 1#2 1#3 with tcnt := 0xFF#8, ocrAct := 0xFF#8 }) = .next t) ∧
    (on0 { t8 0#2 1#2 1#3 with tcnt := 0xFF#8, ocrAct := 0xFF#8 }).ticks8 .t0 = true ∧
    (∃ t, exec .clk (on2 { t8 2#2 1#2 1#3 with tcnt := 3#8, ocrAct := 3#8 }) = .next t) ∧
    (on2 { t8 2#2 1#2 1#3 with tcnt := 3#8, ocrAct := 3#8 }).ticks8 .t2 = true :=
  ⟨⟨_, rfl⟩, by decide, ⟨_, rfl⟩, by decide⟩

/-- At the wrap with COM = 10 and at the match with COM = 11; COM = 00 below. -/
theorem witness_FastPwmTickOfTimer8 :
    (∃ t, exec .clk (on0 { t8 3#2 2#2 1#3 with tcnt := 0xFF#8 }) = .next t) ∧
    (on0 { t8 3#2 2#2 1#3 with tcnt := 0xFF#8 }).ticks8 .t0 = true ∧
    (∃ t, exec .clk (on2 { t8 3#2 3#2 1#3 with tcnt := 9#8, ocrAct := 9#8 }) = .next t) ∧
    (on2 { t8 3#2 3#2 1#3 with tcnt := 9#8, ocrAct := 9#8 }).ticks8 .t2 = true ∧
    (∃ t, exec .clk (on0 (t8 3#2 0#2 1#3)) = .next t) ∧ (on0 (t8 3#2 0#2 1#3)).ticks8 .t0 = true :=
  ⟨⟨_, rfl⟩, by decide, ⟨_, rfl⟩, by decide, ⟨_, rfl⟩, by decide⟩

/-- Up at 0xFF and below it, down at 0 and above it, with a match and each action. -/
theorem witness_PhaseCorrectTickOfTimer8 :
    (∀ p ∈ [(0xFF#8, Dir.up), (9#8, Dir.up), (0#8, Dir.down), (9#8, Dir.down)], ∀ com ∈ [0#2, 2#2, 3#2],
      (after (exec .clk (on0 { t8 1#2 com 1#3 with tcnt := p.1, ocrAct := 9#8, dir := p.2 })) (·.t0.wgm)).isSome = true ∧
      (on0 { t8 1#2 com 1#3 with tcnt := p.1, ocrAct := 9#8, dir := p.2 }).ticks8 .t0 = true) := by decide

/-- Normal mode at 0xFFFF, CTC at TOP in modes 4 and 12. -/
theorem witness_NormalAndCtcTickOfTimer1 :
    (∃ t, exec .clk (on1 { t1In 0#4 with tcnt := 0xFFFF#16 }) = .next t) ∧
    tick1 (on1 { t1In 0#4 with tcnt := 0xFFFF#16 }) = true ∧
    (∃ t, exec .clk (on1 { t1In 4#4 with tcnt := 3#16, ocrAAct := 3#16 }) = .next t) ∧
    tick1 (on1 { t1In 4#4 with tcnt := 3#16, ocrAAct := 3#16 }) = true ∧
    (∃ t, exec .clk (on1 { t1In 12#4 with tcnt := 3#16, icr := 3#16 }) = .next t) ∧
    tick1 (on1 { t1In 12#4 with tcnt := 3#16, icr := 3#16 }) = true :=
  ⟨⟨_, rfl⟩, by decide, ⟨_, rfl⟩, by decide, ⟨_, rfl⟩, by decide⟩

/-- At TOP in modes 5, 14 and 15, and at 0xFFFF above TOP. -/
theorem witness_FastPwmTickOfTimer1 :
    (∃ t, exec .clk (on1 { t1In 5#4 with tcnt := 0xFF#16 }) = .next t) ∧
    tick1 (on1 { t1In 5#4 with tcnt := 0xFF#16 }) = true ∧
    (∃ t, exec .clk (on1 { t1In 14#4 with tcnt := 3#16, icr := 3#16 }) = .next t) ∧
    tick1 (on1 { t1In 14#4 with tcnt := 3#16, icr := 3#16 }) = true ∧
    (∃ t, exec .clk (on1 { t1In 15#4 with tcnt := 0xFFFF#16, ocrAAct := 3#16, comA := 1#2 }) = .next t) ∧
    tick1 (on1 { t1In 15#4 with tcnt := 0xFFFF#16, ocrAAct := 3#16, comA := 1#2 }) = true :=
  ⟨⟨_, rfl⟩, by decide, ⟨_, rfl⟩, by decide, ⟨_, rfl⟩, by decide⟩

/-- At TOP going up and at 0 going down, in modes 1, 8 and 10; the Booleans are what their equations say. -/
theorem witness_DualSlopeTickOfTimer1 :
    (∃ t, exec .clk (on1 { t1In 1#4 with tcnt := 0xFF#16 }) = .next t) ∧
    tick1 (on1 { t1In 1#4 with tcnt := 0xFF#16 }) = true ∧
    (∃ t, exec .clk (on1 { t1In 8#4 with icr := 3#16, dir := .down }) = .next t) ∧
    tick1 (on1 { t1In 8#4 with icr := 3#16, dir := .down }) = true ∧
    (∃ t, exec .clk (on1 { t1In 10#4 with icr := 3#16, tcnt := 3#16 }) = .next t) ∧
    tick1 (on1 { t1In 10#4 with icr := 3#16, tcnt := 3#16 }) = true :=
  ⟨⟨_, rfl⟩, by decide, ⟨_, rfl⟩, by decide, ⟨_, rfl⟩, by decide⟩

/-- A selected edge with the canceller off; a level that is not yet stable with it on. -/
theorem witness_InputCapture :
    (∃ t, exec .clk { on1 { t1In 0#4 with ices := true } with icpPin := true } = .next t) ∧
    (State.reset.icpFilt ≠ true ∧ (on1 { t1In 0#4 with ices := true }).t1.ices = true ∧
      (on1 { t1In 0#4 with ices := true }).t1.wgm ∉ [8#4, 10#4, 12#4, 14#4]) ∧
    (∃ t, exec .clk { on1 { t1In 0#4 with icnc := true } with icpPin := true } = .next t) ∧
    State.reset.icpFilt = (if State.reset.icpHist.s1 = true then true else State.reset.icpFilt) ∧
    (∃ t, exec .clk { on1 { Timer1.resetWith 0#8 with wgm := 8#4, ices := true } with icpPin := true } = .next t) ∧
    tick1 { on1 { Timer1.resetWith 0#8 with wgm := 8#4, ices := true } with icpPin := true } = false :=
  ⟨⟨_, rfl⟩, by decide, ⟨_, rfl⟩, by decide, ⟨_, rfl⟩, by decide⟩

/-- Three CLKs, a pulse that ends there, and four CLKs. -/
theorem witness_NoiseCanceller :
    ∃ s t u u' v : State, s.t1.icnc = true ∧ s.icpHist = ⟨false, false, false, false⟩ ∧ s.icpFilt = false ∧
      s.icpPin = !false ∧ clocks 3 s = .next t ∧ exec (.pinIcp1 false) t = .next u ∧ clocks 2 u = .next u' ∧
      clocks 4 s = .next v :=
  ⟨{ on1 { Timer1.resetWith 0#8 with icnc := true } with icpPin := true }, _, _, _, _, rfl, rfl, rfl, rfl, rfl, rfl,
    rfl, rfl⟩

theorem witness_PrescaledCountAndOverflow :
    ((on2 (t8 0#2 0#2 7#3)).timer8 .t2).wgm = 0#2 ∧ (on2 (t8 0#2 0#2 7#3)).onlyTimer8Runs .t2 ∧
    divisor8 .t2 ((on2 (t8 0#2 0#2 7#3)).timer8 .t2).cs.toNat = some 1024 ∧
    2 = ((on2 (t8 0#2 0#2 7#3)).prescaler8 .t2 + 2048) / 1024 - (on2 (t8 0#2 0#2 7#3)).prescaler8 .t2 / 1024 :=
  ⟨rfl, ⟨rfl, rfl⟩, rfl, rfl⟩

theorem witness_CtcPeriod :
    ((on0 { t8 2#2 0#2 1#3 with ocrAct := 3#8, tcnt := 3#8 }).timer8 .t0).wgm = 2#2 ∧
    ((on0 { t8 2#2 0#2 1#3 with ocrAct := 3#8, tcnt := 3#8 }).timer8 .t0).cs = 1#3 ∧
    (on0 { t8 2#2 0#2 1#3 with ocrAct := 3#8, tcnt := 3#8 }).onlyTimer8Runs .t0 ∧
    ((on0 { t8 2#2 0#2 1#3 with ocrAct := 3#8, tcnt := 3#8 }).timer8 .t0).tcnt.toNat ≤
      ((on0 { t8 2#2 0#2 1#3 with ocrAct := 3#8, tcnt := 3#8 }).timer8 .t0).ocrAct.toNat :=
  ⟨rfl, rfl, ⟨rfl, rfl⟩, by decide⟩

theorem witness_FastPwmHighTime :
    ∃ s : State, (s.timer8 .t0).wgm = 3#2 ∧ (s.timer8 .t0).com = 2#2 ∧ (s.timer8 .t0).cs = 1#3 ∧
      s.onlyTimer8Runs .t0 ∧ (s.timer8 .t0).tcnt = 0#8 ∧ (s.timer8 .t0).blk = false ∧ (s.timer8 .t0).oc = true ∧
      (s.timer8 .t0).ocrAct = (s.timer8 .t0).ocrBuf :=
  ⟨on0 { t8 3#2 2#2 1#3 with oc := true, ocrAct := 0xFF#8, ocrBuf := 0xFF#8 }, rfl, rfl, rfl, ⟨rfl, rfl⟩, rfl, rfl,
    rfl, rfl⟩

theorem witness_OutputDrive :
    (on0 (t8 3#2 2#2 0#3)).t0.com ≠ 1#2 ∧ (on0 (t8 2#2 1#2 0#3)).t0.wgm = 2#2 ∧
    (on2 (t8 1#2 3#2 0#3)).t2.com ≠ 1#2 ∧ (on2 (t8 0#2 1#2 0#3)).t2.wgm = 0#2 := by decide

/-- An action of each clause, and an action of an operation of each clause. -/
theorem witness_ShadowRule :
    (∃ t, exec .sei State.reset = .next t) ∧ (∃ t, exec .clk State.reset = .next t) ∧
    (∃ t, exec .cli State.reset = .next t) ∧ (∃ t, microStep (.getTimer1Ret 5#16) State.reset = .next t) ∧
    (∃ t, microStep .cli State.reset = .next t) :=
  ⟨⟨_, rfl⟩, ⟨_, rfl⟩, ⟨_, rfl⟩, ⟨_, rfl⟩, ⟨_, rfl⟩⟩

theorem witness_AcceptTakesHighestPriority : twoPending.acceptEnabled = true := by decide

theorem witness_RetiReturns :
    State.reset.isr = [] ∧ { State.reset with isr := [Source.t0Ovf] }.isr = .t0Ovf :: [] := by decide

/-- A registered source. -/
def registered : State := { State.reset with slots := setSlot State.reset.slots .t0Ovf (some 7#16) }

theorem witness_CallbackSlots :
    (7#16 : Half) ≠ 0#16 ∧ slotOf State.reset.slots .t0Ovf = none ∧ slotOf registered.slots .t0Ovf = some 7#16 := by
  decide

theorem reset_ready : Ready State.reset := ⟨rfl, rfl, rfl, .inl rfl⟩

theorem witness_DispatchAndHandler :
    (Ready registered ∧ slotOf registered.slots .t0Ovf = some 7#16) ∧
    (∃ s : State, s.faults = [] ∧ s.refusals = [] ∧ s.gie = false ∧ s.input = [] ∧
      s.pending = [.wr .tifr (1#8 <<< sourceBit .t0Ovf), .sei] ++ [.cli]) ∧
    (∃ s : State, s.faults = [] ∧ s.refusals = [] ∧ s.gie = false ∧ s.input = [] ∧ s.isr = .t0Ovf :: [] ∧
      s.pending = [.wr .tifr (1#8 <<< sourceBit .t0Ovf), .sei, .reti] ++ [.cli]) :=
  ⟨⟨⟨rfl, rfl, rfl, .inl rfl⟩, rfl⟩,
    ⟨{ State.reset with pending := [.wr .tifr (1#8 <<< sourceBit .t0Ovf), .sei, .cli] }, rfl, rfl, rfl, rfl, rfl⟩,
    ⟨{ State.reset with pending := [.wr .tifr (1#8 <<< sourceBit .t0Ovf), .sei, .reti, .cli], isr := [.t0Ovf] },
      rfl, rfl, rfl, rfl, rfl, rfl⟩⟩

/-- Actions that change what the statement restricts. -/
theorem witness_WhatEachActionMayChange :
    (∃ t, exec (.wrTimsk 1#8) State.reset = .next t ∧ t.timsk ≠ State.reset.timsk) ∧
    (∃ t, exec (.slotStore .t0Ovf 7#16) State.reset = .next t ∧ t.slots ≠ State.reset.slots) ∧
    (∃ t, exec .accept twoPending = .next t ∧ t.isr ≠ twoPending.isr) ∧
    (∃ t, exec .sei State.reset = .next t ∧ t.gie = true) ∧
    (∃ t, exec .clk State.reset = .next t ∧ t.p01 ≠ State.reset.p01 ∧ t.p2 ≠ State.reset.p2) ∧
    (∃ t, microStep (.wr .timsk 1#8) State.reset = .next t ∧ t.timsk ≠ State.reset.timsk) ∧
    (∃ t, microStep (.slotStore .t0Ovf 7#16) State.reset = .next t ∧ t.slots ≠ State.reset.slots) ∧
    (∃ t, microStep .reti { State.reset with isr := [.t0Ovf] } = .next t ∧ t.isr = [] ∧ t.gie = true) ∧
    (∃ t, microStep (.wr .tifr 0x80#8) twoPending = .next t ∧ t.flag .t2Comp = false ∧ t.flag .t0Ovf = true) ∧
    (∃ t, microStep (.wr .sfior 3#8) { State.reset with p01 := 5#10, p2 := 5#10 } = .next t ∧
      t.p01 = 0#10 ∧ t.p2 = 0#10) ∧
    (∃ t, microStep (.wr .tcnt2 9#8) State.reset = .next t ∧ t.t2 ≠ State.reset.t2) :=
  ⟨⟨_, rfl, by decide⟩, ⟨_, rfl, by decide⟩, ⟨_, rfl, by decide⟩, ⟨_, rfl, by decide⟩, ⟨_, rfl, by decide, by decide⟩,
    ⟨_, rfl, by decide⟩, ⟨_, rfl, by decide⟩, ⟨_, rfl, by decide⟩, ⟨_, rfl, by decide⟩, ⟨_, rfl, by decide⟩,
    ⟨_, rfl, by decide⟩⟩

theorem reset_compareFollows : CompareFollows State.reset := ⟨fun _ => rfl, fun _ => rfl, fun _ => rfl, fun _ => rfl⟩

/-- Also with interrupts on and nothing pending. -/
theorem ready_with_gie : Ready { State.reset with gie := true, tifr := 0x01#8, timsk := 0x02#8 } :=
  ⟨rfl, rfl, rfl, .inr rfl⟩

theorem witness_InitOfTimer8 :
    (0xFF#16 : Half).toNat ≤ 255 ∧ Ready State.reset ∧ CompareFollows State.reset :=
  ⟨by decide, reset_ready, reset_compareFollows⟩

theorem witness_InitOfTimer1 :
    (2#4 : BitVec 4).toNat = 4 * (State.reset.t1.wgm.toNat / 4) + (14#4 : BitVec 4).toNat % 4 ∧
    Ready State.reset ∧ CompareFollows State.reset ∧
    ((14#4 : BitVec 4) ≠ 13#4 ∧ ¬(2#4 ∈ [0#4, 4#4, 12#4, 13#4] ∨ 14#4 ∈ [0#4, 4#4, 12#4, 13#4])) :=
  ⟨by decide, reset_ready, reset_compareFollows, by decide⟩

theorem witness_DisableStopsTheTimer : Ready State.reset ∧ CompareFollows State.reset :=
  ⟨reset_ready, reset_compareFollows⟩

theorem witness_CounterAndCompareCalls :
    (0xFF#16 : Half).toNat ≤ 255 ∧ (0xFF#8 : Byte).toNat = (0xFF#16 : Half).toNat ∧
    (0x12#8 : Byte).toNat = (0x1234#16 : Half).toNat / 256 ∧ Ready State.reset ∧
    (0#8 : Byte).toNat = State.reset.t1.tcnt.toNat / 256 :=
  ⟨by decide, by decide, by decide, reset_ready, by decide⟩

theorem witness_InterruptMaskCalls :
    ((∃ t, Instr.enableOvfInt .t0 7#16 = .enableOvfInt t 7#16 ∧ Instr.disableOvfInt .t0 = .disableOvfInt t ∧
      Source.t0Ovf = ovfSource t) ∧
    (∃ t u, unitOk t u = true ∧ Instr.enableCmpInt .t1 .b 7#16 = .enableCmpInt t u 7#16 ∧
      Instr.disableCmpInt .t1 .b = .disableCmpInt t u ∧ Source.t1CompB = cmpSource t u) ∧
    (Instr.enableCaptInt 7#16 = .enableCaptInt 7#16 ∧ Instr.disableCaptInt = .disableCaptInt ∧
      Source.t1Capt = .t1Capt)) ∧ Ready State.reset :=
  ⟨⟨⟨.t0, rfl, rfl, rfl⟩, ⟨.t1, .b, rfl, rfl, rfl, rfl⟩, rfl, rfl, rfl⟩, reset_ready⟩

theorem witness_PwmCalls :
    (1#32 : BitVec 32) ≠ 0#32 ∧ (62 : Nat) = 8000000 / (500 * 256) ∧ (0 : Nat) = 8000000 / (40000 * 256) ∧
    100 < (101#8 : Byte).toNat ∧ (100#8 : Byte).toNat ≤ 100 := by decide

theorem witness_DelayMsSetsUpItsTimer :
    Ready { State.reset with gie := true, tifr := 0x01#8, timsk := 0x02#8 } ∧ CompareFollows State.reset ∧
    Ready State.reset ∧ (0#32 : BitVec 32) = 0#32 :=
  ⟨ready_with_gie, reset_compareFollows, reset_ready, rfl⟩

theorem witness_DelayLoopCountsOverflows :
    ∃ s : State, s.faults = [] ∧ s.refusals = [] ∧ s.gie = false ∧ s.onlyTimer8Runs .t2 ∧
      (s.timer8 .t2).wgm = 0#2 ∧ (s.timer8 .t2).cs = 1#3 ∧ (s.timer8 .t2).tcnt = 0#8 ∧
      s.flag (delaySource .t2) = false ∧ s.pending = pollMicros .t2 3 ++ disableMicros8 .t2 ∧
      s.input = (List.replicate 3
        (.cpu :: List.replicate 256 (.during 0x200000000000#48) ++ [.cpu, .cpu])).flatten :=
  ⟨{ on2 (t8 0#2 0#2 1#3) with
      pending := pollMicros .t2 3 ++ disableMicros8 .t2
      input := (List.replicate 3
        (.cpu :: List.replicate 256 (.during 0x200000000000#48) ++ [.cpu, .cpu])).flatten },
    rfl, rfl, rfl, ⟨rfl, rfl⟩, rfl, rfl, rfl, rfl, rfl, rfl⟩

/-- A body action of one CPU action and one of several, at the head of what is in progress, with a turn left to the CPU
and with one given to it. -/
theorem witness_BodiesAndExpansions :
    ((Instr.wrOcr0 0x20#8).wellFormed = true ∧ (Instr.wrOcr0 0x20#8).isBodyAction = true) ∧
    ((Instr.enableCmpInt .t1 .b 7#16).wellFormed = true ∧ (Instr.enableCmpInt .t1 .b 7#16).isBodyAction = true) ∧
    (∀ inp ∈ [[], [Input.cpu]],
      ({ State.reset with
        pending := expand (.enableCmpInt .t1 .b 7#16) ++ [.sei], input := inp } : State).acceptEnabled = false) ∧
    State.reset.faults = [] ∧ State.reset.refusals = [] := by decide

/-- An illegal word behind an operation in progress and an enabled ACCEPT (log 19). -/
theorem test_illegal_word_does_not_wait :
    refusalOf (step { twoPending with input := [.word 0x600000000000#48], pending := [.cli] }) =
      some (.decodeInvalid 0x600000000000#48) := by decide

end Sys2Proof.Tests
end

section
/-! PROOFS. The state after reset (spec 10_state.md R70): what each accessor returns on `State.resetWith d`, and O10. -/

namespace Sys2Proof.Machine

/-! ### The registers made of fields -/

@[simp] theorem Timer8.reset_readTccr : Timer8.reset.readTccr = 0#8 := by decide

@[simp] theorem Timer1.resetWith_readTccrA (temp : Byte) : (Timer1.resetWith temp).readTccrA = 0#8 := by
  simp [Timer1.readTccrA, Timer1.resetWith, field]

@[simp] theorem Timer1.resetWith_readTccrB (temp : Byte) : (Timer1.resetWith temp).readTccrB = 0#8 := by
  simp [Timer1.readTccrB, Timer1.resetWith, field]

@[simp] theorem State.resetWith_readAssr (d : Draw) : (State.resetWith d).readAssr = 0#8 := by
  simp [State.readAssr, State.resetWith]

@[simp] theorem State.resetWith_readSfior (d : Draw) : (State.resetWith d).readSfior = 0#8 := by
  simp [State.readSfior, State.resetWith]

/-! ### Accessors of the reset state -/

@[simp] theorem State.resetWith_t0 (d : Draw) : (State.resetWith d).t0 = Timer8.reset := rfl
@[simp] theorem State.resetWith_t1 (d : Draw) : (State.resetWith d).t1 = Timer1.resetWith d.temp := rfl
@[simp] theorem State.resetWith_t2 (d : Draw) : (State.resetWith d).t2 = Timer8.reset := rfl

@[simp] theorem State.resetWith_timer8 (d : Draw) (n : Timer8Id) :
    (State.resetWith d).timer8 n = Timer8.reset := by
  cases n <;> rfl

@[simp] theorem slotOf_resetWith (d : Draw) (src : Source) :
    slotOf (State.resetWith d).slots src = none := by
  cases src <;> rfl

/-- TCNT1H and ICR1H are the registers that read TEMP1 (R183, R195), so they return the byte drawn (R442). -/
theorem State.resetWith_readValue (d : Draw) (r : Reg) :
    (State.resetWith d).readValue r = if r = .tcnt1h ∨ r = .icr1h then d.temp else 0#8 := by
  cases r with
  | tcnt1h | icr1h => rfl
  | tccr0 | tccr2 | tccr1a | tccr1b | assr | sfior => simp [State.readValue]
  | tcnt0 | ocr0 | tcnt2 | ocr2 | timsk | tifr => rfl
  | tcnt1l | icr1l | ocr1ah | ocr1al | ocr1bh | ocr1bl =>
    simp [State.readValue, Timer1.resetWith, hiByte, loByte]

/-! ### The table of R70 -/

/-- Settles O10: the registers by their reads, Timer0, Timer2 and the slots by their accessors, and the other rows of
R70's table as the fields that `State.resetWith` and `Timer1.resetWith` write. -/
theorem resetState : Obligations.ResetState := by
  refine ⟨⟨Draw.zero, rfl⟩, fun d => ⟨?registers, ?timers8, ?fields⟩⟩
  case registers =>
    intro r hTcnt1h hIcr1h
    rw [State.resetWith_readValue, if_neg (not_or.mpr ⟨hTcnt1h, hIcr1h⟩)]
  case timers8 =>
    intro n
    simp [Timer8.reset]
  case fields =>
    simp only [slotOf_resetWith, implies_true, true_and]
    simp [State.resetWith, Timer1.resetWith]

end Sys2Proof.Machine
end

section
/-! PROOFS. Legal words and the rows of the opcode table (spec 30_encoding.md R116), O3. A word that decodes is the word
of its action, so the family `RowCode` puts it under the mask of its row; a word under the mask of a row has the fields
that the row's branch of `decode` tests. The row constraints are read through the codes of T, U and CH both ways. -/

namespace Sys2Proof

open Sys2Proof.Laws

/-! ### A word and its fields -/

@[simp] theorem Fields.ofWord_toWord (f : Fields) : Fields.ofWord f.toWord = f := by
  unfold Fields.ofWord Fields.toWord
  congr 1 <;> refine BitVec.eq_of_getLsbD_eq fun i hi => ?_
  all_goals
    simp only [BitVec.getLsbD_append, BitVec.getLsbD_extractLsb']
    interval_cases i <;> simp

@[simp] theorem Fields.toWord_ofWord (w : ActionWord) : (Fields.ofWord w).toWord = w := by
  simp only [Fields.ofWord, Fields.toWord, BitVec.extractLsb'_append_extractLsb'_eq_extractLsb']
  exact BitVec.extractLsb'_eq_self

/-! ### Field codes -/

/-- The number that a branch of the decoder compares with, as the code itself. -/
theorem opcode_eq {x : BitVec 4} {k : Nat} (h : x.toNat = k) : x = BitVec.ofNat 4 k := by
  rw [← h, BitVec.ofNat_toNat, BitVec.setWidth_eq]

theorem decodeTimer_eq_some {c : BitVec 2} {t : TimerId} : decodeTimer c = some t ↔ c = encodeTimer t := by
  cases t <;> decide +revert

theorem decodeUnit_eq_some {c : BitVec 2} {u : CmpUnit} : decodeUnit c = some u ↔ c = encodeUnit u := by
  cases u <;> decide +revert

theorem decodeChannel_eq_some {c : BitVec 4} {ch : Channel} : decodeChannel c = some ch ↔ c = encodeChannel ch := by
  cases ch <;> decide +revert

theorem encodeSource_decodeSource (c : BitVec 3) : encodeSource (decodeSource c) = c := by
  decide +revert

theorem Reg.ofAddr_eq_some {a : Byte} {r : Reg} : Reg.ofAddr a = some r ↔ a = r.addr := by
  cases r <;> decide +revert

/-! ### The fields T, U and CH -/

theorem Fields.noTimer_iff (f : Fields) : f.noTimer = true ↔ f.t = 0#2 ∧ f.u = 0#2 ∧ f.ch = 0#4 := by
  simp [Fields.noTimer, and_assoc]

theorem Fields.timer1Only_iff (f : Fields) : f.timer1Only = true ↔ f.t = 1#2 ∧ f.u = 0#2 ∧ f.ch = 0#4 := by
  simp [Fields.timer1Only, and_assoc]

theorem Fields.timerOnly_eq_some {f : Fields} {t : TimerId} :
    f.timerOnly = some t ↔ f.t = encodeTimer t ∧ f.u = 0#2 ∧ f.ch = 0#4 := by
  simp [Fields.timerOnly, decodeTimer_eq_some, and_comm]

theorem Fields.timerUnit_eq_some {f : Fields} {t : TimerId} {u : CmpUnit} :
    f.timerUnit = some (t, u) ↔ f.t = encodeTimer t ∧ f.u = encodeUnit u ∧ f.ch = 0#4 := by
  simp [Fields.timerUnit, Option.bind_eq_some_iff, decodeTimer_eq_some, decodeUnit_eq_some, and_comm, and_left_comm]

theorem Fields.channelOnly_eq_some {f : Fields} {ch : Channel} :
    f.channelOnly = some ch ↔ f.t = 0#2 ∧ f.u = 0#2 ∧ f.ch = encodeChannel ch := by
  simp [Fields.channelOnly, decodeChannel_eq_some, and_assoc]

/-! ### Payloads put together again -/

/-- Bits that are 0 above a field of the payload may be written out again. -/
theorem zero_append_low {k n : Nat} {p : BitVec (k + n)} (h : p.extractLsb' n k = 0#k) :
    0#k ++ p.extractLsb' 0 n = p := by
  rw [← h, BitVec.extractLsb'_append_extractLsb'_eq_extractLsb' (Nat.zero_add n).symm, BitVec.extractLsb'_eq_self]

theorem low_payload {f : Fields} (h : f.high = 0#16) : 0#16 ++ f.low = f.payload :=
  zero_append_low (k := 16) (n := 16) h

/-- ADDR and DATA of a bus action (R103). -/
theorem bus_payload {f : Fields} (h : f.high = 0#16) :
    0#16 ++ f.payload.extractLsb' 8 8 ++ f.payload.extractLsb' 0 8 = f.payload := by
  simp only [← h, Fields.high, BitVec.extractLsb'_append_extractLsb'_eq_extractLsb']
  exact BitVec.extractLsb'_eq_self

/-- LEVEL of a PIN action (R105). -/
theorem pin_payload {p : BitVec 32} (h : p.extractLsb' 1 31 = 0#31) : 0#31 ++ BitVec.ofBool (p.getLsbD 0) = p := by
  have hbit : BitVec.ofBool (p.getLsbD 0) = p.extractLsb' 0 1 := by
    ext i hi
    obtain rfl : i = 0 := by omega
    simp
  rw [hbit]
  exact zero_append_low (k := 31) (n := 1) h

/-- SRC and CBID of a slot action (R107). -/
theorem slot_payload {f : Fields} (h : f.payload.extractLsb' 19 13 = 0#13) :
    0#13 ++ encodeSource (decodeSource (f.payload.extractLsb' 16 3)) ++ f.low = f.payload := by
  simp only [← h, Fields.low, encodeSource_decodeSource, BitVec.extractLsb'_append_extractLsb'_eq_extractLsb']
  exact BitVec.extractLsb'_eq_self

/-- SRC of DISPATCH (R114). -/
theorem source_payload {p : BitVec 32} (h : p.extractLsb' 3 29 = 0#29) :
    0#29 ++ encodeSource (decodeSource (p.extractLsb' 0 3)) = p := by
  rw [encodeSource_decodeSource]
  exact zero_append_low (k := 29) (n := 3) h

/-- COUNT, MODE, CLKSEL and COMACT of INIT (R114). -/
theorem init_payload {f : Fields} (h : f.payload.extractLsb' 0 4 = 0#4) :
    f.high ++ f.payload.extractLsb' 12 4 ++ f.payload.extractLsb' 8 4 ++ f.payload.extractLsb' 4 4 ++ 0#4 =
      f.payload := by
  simp only [← h, Fields.high, BitVec.extractLsb'_append_extractLsb'_eq_extractLsb']
  exact BitVec.extractLsb'_eq_self

/-! ### The fields written for an action -/

theorem Reg.encodeFields_readInstr (r : Reg) : encodeFields r.readInstr = busRdFields r := by
  cases r <;> rfl

theorem Reg.encodeFields_writeInstr (r : Reg) (d : Byte) : encodeFields (r.writeInstr d) = busWrFields r d := by
  cases r <;> rfl

theorem plainFields_eq {f : Fields} {cls op : BitVec 4} {p : BitVec 32} (hcls : f.cls = cls) (hop : f.op = op)
    (hn : f.noTimer = true) (hp : p = f.payload) : plainFields cls op p = f := by
  obtain ⟨ht, hu, hch⟩ := f.noTimer_iff.mp hn
  cases f
  subst hcls hop ht hu hch hp
  rfl

theorem timerFields_eq {f : Fields} {op : BitVec 4} {t : TimerId} {u : CmpUnit} {p : BitVec 32} (hcls : f.cls = 5#4)
    (hop : f.op = op) (ht : f.t = encodeTimer t) (hu : f.u = encodeUnit u) (hch : f.ch = 0#4) (hp : p = f.payload) :
    timerFields op t u p = f := by
  cases f
  subst hcls hop ht hu hch hp
  rfl

theorem channelFields_eq {f : Fields} {op : BitVec 4} {ch : Channel} {p : BitVec 32} (hcls : f.cls = 5#4)
    (hop : f.op = op) (ht : f.t = 0#2) (hu : f.u = 0#2) (hch : f.ch = encodeChannel ch) (hp : p = f.payload) :
    channelFields op ch p = f := by
  cases f
  subst hcls hop ht hu hch hp
  rfl

/-! ### Fields that decode are the fields of their action -/

theorem encodeFields_of_decodeBusRd {f : Fields} {i : Instr} (hcls : f.cls = 0#4) (h : decodeBusRd f = some i) :
    encodeFields i = f := by
  simp only [decodeBusRd, Option.ite_none_right_eq_some, Bool.and_eq_true, beq_iff_eq, Option.map_eq_some_iff,
    Reg.ofAddr_eq_some] at h
  obtain ⟨⟨⟨⟨hop, hn⟩, hhigh⟩, hlow⟩, r, haddr, rfl⟩ := h
  rw [Reg.encodeFields_readInstr, busRdFields]
  exact plainFields_eq hcls hop hn (by rw [← haddr, ← hlow, bus_payload hhigh])

theorem encodeFields_of_decodeBusWr {f : Fields} {i : Instr} (hcls : f.cls = 1#4) (h : decodeBusWr f = some i) :
    encodeFields i = f := by
  simp only [decodeBusWr, Option.ite_none_right_eq_some, Bool.and_eq_true, beq_iff_eq, Option.map_eq_some_iff,
    Reg.ofAddr_eq_some] at h
  obtain ⟨⟨⟨hop, hn⟩, hhigh⟩, r, haddr, rfl⟩ := h
  rw [Reg.encodeFields_writeInstr, busWrFields]
  exact plainFields_eq hcls hop hn (by rw [← haddr, bus_payload hhigh])

theorem encodeFields_of_decodeEvent {f : Fields} {i : Instr} (hcls : f.cls = 2#4) (h : decodeEvent f = some i) :
    encodeFields i = f := by
  simp only [decodeEvent, Option.ite_none_right_eq_some] at h
  obtain ⟨hn, h⟩ := h
  split at h <;> simp only [Option.ite_none_right_eq_some, beq_iff_eq, Option.some.injEq, reduceCtorEq] at h
  case h_1 hop =>
    obtain ⟨hp, rfl⟩ := h
    exact plainFields_eq hcls (opcode_eq hop) hn hp.symm
  case h_2 hop | h_3 hop | h_4 hop =>
    obtain ⟨hp, rfl⟩ := h
    exact plainFields_eq hcls (opcode_eq hop) hn (pin_payload hp)

theorem encodeFields_of_decodeCore {f : Fields} {i : Instr} (hcls : f.cls = 3#4) (h : decodeCore f = some i) :
    encodeFields i = f := by
  simp only [decodeCore, Option.ite_none_right_eq_some, Bool.and_eq_true, beq_iff_eq] at h
  obtain ⟨⟨hn, hp⟩, h⟩ := h
  split at h <;> simp only [Option.some.injEq, reduceCtorEq] at h
  case h_1 hop | h_2 hop | h_3 hop | h_4 hop =>
    subst h
    exact plainFields_eq hcls (opcode_eq hop) hn hp.symm

theorem encodeFields_of_decodeSlot {f : Fields} {i : Instr} (hcls : f.cls = 4#4) (h : decodeSlot f = some i) :
    encodeFields i = f := by
  simp only [decodeSlot, Option.ite_none_right_eq_some, Bool.and_eq_true, beq_iff_eq] at h
  obtain ⟨⟨hn, hp⟩, h⟩ := h
  split at h <;> simp only [Option.ite_none_right_eq_some, Option.some.injEq, reduceCtorEq] at h
  case h_1 hop =>
    subst h
    exact plainFields_eq hcls (opcode_eq hop) hn (slot_payload hp)
  case h_2 hop =>
    obtain ⟨hlow, rfl⟩ := h
    exact plainFields_eq hcls (opcode_eq hop) hn (by rw [← hlow, slot_payload hp])

theorem encodeFields_of_decodeDriver {f : Fields} {i : Instr} (hcls : f.cls = 5#4) (h : decodeDriver f = some i) :
    encodeFields i = f := by
  unfold decodeDriver at h
  split at h <;>
    simp only [Option.ite_none_right_eq_some, beq_iff_eq, Bool.and_eq_true, Option.map_eq_some_iff, Prod.exists,
      Fields.timerOnly_eq_some, Fields.timerUnit_eq_some, Fields.channelOnly_eq_some, Fields.timer1Only_iff,
      Option.some.injEq, reduceCtorEq] at h
  case h_1 hop =>
    obtain ⟨hp, t, u, ⟨ht, hu, hch⟩, rfl⟩ := h
    exact timerFields_eq hcls (opcode_eq hop) ht hu hch (init_payload hp)
  case h_2 hop | h_5 hop | h_10 hop =>
    obtain ⟨hp, t, ⟨ht, hu, hch⟩, rfl⟩ := h
    exact timerFields_eq hcls (opcode_eq hop) ht hu hch hp.symm
  case h_3 hop | h_8 hop =>
    obtain ⟨hp, t, u, ⟨ht, hu, hch⟩, rfl⟩ := h
    exact timerFields_eq hcls (opcode_eq hop) ht hu hch (low_payload hp)
  case h_4 hop | h_7 hop =>
    obtain ⟨hp, t, ⟨ht, hu, hch⟩, rfl⟩ := h
    exact timerFields_eq hcls (opcode_eq hop) ht hu hch (low_payload hp)
  case h_6 hop =>
    obtain ⟨t, ⟨ht, hu, hch⟩, rfl⟩ := h
    exact timerFields_eq hcls (opcode_eq hop) ht hu hch rfl
  case h_9 hop =>
    obtain ⟨⟨⟨ht, hu, hch⟩, hp⟩, rfl⟩ := h
    exact timerFields_eq hcls (opcode_eq hop) ht hu hch (low_payload hp)
  case h_11 hop =>
    obtain ⟨hp, t, u, ⟨ht, hu, hch⟩, rfl⟩ := h
    exact timerFields_eq hcls (opcode_eq hop) ht hu hch hp.symm
  case h_12 hop =>
    obtain ⟨⟨⟨ht, hu, hch⟩, hp⟩, rfl⟩ := h
    exact timerFields_eq hcls (opcode_eq hop) ht hu hch hp.symm
  case h_13 hop =>
    obtain ⟨⟨hn, hp⟩, rfl⟩ := h
    exact plainFields_eq hcls (opcode_eq hop) hn (source_payload hp)
  case h_14 hop =>
    obtain ⟨ch, ⟨ht, hu, hch⟩, rfl⟩ := h
    exact channelFields_eq hcls (opcode_eq hop) ht hu hch rfl
  case h_15 hop =>
    obtain ⟨hp, ch, ⟨ht, hu, hch⟩, rfl⟩ := h
    exact channelFields_eq hcls (opcode_eq hop) ht hu hch (zero_append_low (k := 24) (n := 8) hp)

theorem encodeFields_of_decodeFields {f : Fields} {i : Instr} (h : decodeFields f = some i) : encodeFields i = f := by
  unfold decodeFields at h
  split at h
  case h_1 hcls => exact encodeFields_of_decodeBusRd (opcode_eq hcls) h
  case h_2 hcls => exact encodeFields_of_decodeBusWr (opcode_eq hcls) h
  case h_3 hcls => exact encodeFields_of_decodeEvent (opcode_eq hcls) h
  case h_4 hcls => exact encodeFields_of_decodeCore (opcode_eq hcls) h
  case h_5 hcls => exact encodeFields_of_decodeSlot (opcode_eq hcls) h
  case h_6 hcls => exact encodeFields_of_decodeDriver (opcode_eq hcls) h
  case h_7 => simp at h

theorem decode_eq_some {w : ActionWord} {i : Instr} :
    decode w = some i ↔ decodeFields (Fields.ofWord w) = some i ∧ i.wellFormed = true := by
  simp [decode, Option.filter_eq_some_iff]

/-! ### The table's fields and the fields of `decode` -/

theorem fieldT_eq (w : ActionWord) : fieldT w = (Fields.ofWord w).t.toNat := by
  simp [fieldT, Fields.ofWord, Nat.shiftRight_eq_div_pow]

theorem fieldU_eq (w : ActionWord) : fieldU w = (Fields.ofWord w).u.toNat := by
  simp [fieldU, Fields.ofWord, Nat.shiftRight_eq_div_pow]

theorem fieldCh_eq (w : ActionWord) : fieldCh w = (Fields.ofWord w).ch.toNat := by
  simp [fieldCh, Fields.ofWord, Nat.shiftRight_eq_div_pow]

theorem fieldHigh_eq (w : ActionWord) : fieldHigh w = (Fields.ofWord w).high.toNat := by
  simp [fieldHigh, Fields.ofWord, Fields.high, Nat.shiftRight_eq_div_pow]

theorem fieldLow_eq (w : ActionWord) : fieldLow w = (Fields.ofWord w).low.toNat := by
  simp [fieldLow, Fields.ofWord, Fields.low]

/-! ### The codes that name a timer, a unit or a channel -/

theorem exists_encodeTimer_iff {c : BitVec 2} : (∃ t, c = encodeTimer t) ↔ c.toNat ≤ 2 := by
  simp only [← decodeTimer_eq_some, ← Option.isSome_iff_exists]
  decide +revert

theorem exists_encodeChannel_iff {c : BitVec 4} : (∃ ch, c = encodeChannel ch) ↔ c.toNat ≤ 3 := by
  simp only [← decodeChannel_eq_some, ← Option.isSome_iff_exists]
  decide +revert

theorem fieldT_beq_one {w : ActionWord} {t : TimerId} (ht : (Fields.ofWord w).t = encodeTimer t) :
    (fieldT w == 1) = (t == .t1) := by
  rw [fieldT_eq, ht]
  cases t <;> rfl

theorem exists_encodeUnit_iff {c : BitVec 2} {t : TimerId} :
    (∃ u, c = encodeUnit u ∧ unitOk t u = true) ↔
      (c.toNat == 0 || (c.toNat == 1 && (encodeTimer t).toNat == 1)) = true := by
  simp only [← decodeUnit_eq_some, ← Option.any_eq_true]
  cases t <;> decide +revert

theorem exists_encodeTimer8_iff {c : BitVec 2} :
    (∃ t, c = encodeTimer t ∧ (t != .t1) = true) ↔ (c.toNat == 0 || c.toNat == 2) = true := by
  simp only [← decodeTimer_eq_some, ← Option.any_eq_true]
  decide +revert

theorem unitFieldOk_iff {w : ActionWord} : unitFieldOk w = true ↔
    ∃ t u, (Fields.ofWord w).t = encodeTimer t ∧ (Fields.ofWord w).u = encodeUnit u ∧ unitOk t u = true := by
  rw [unitFieldOk, fieldT_eq, fieldU_eq, Bool.and_eq_true, decide_eq_true_iff, ← exists_encodeTimer_iff,
    ← exists_and_right]
  refine exists_congr fun t => ?_
  rw [exists_and_left]
  refine and_congr_right fun ht => ?_
  rw [ht, exists_encodeUnit_iff]

/-! ### The row constraints, through the codes of T, U and CH -/

namespace RowConstraint

theorem timer_holds {w : ActionWord} : timer.holds w = true ↔ ∃ t, (Fields.ofWord w).t = encodeTimer t := by
  rw [exists_encodeTimer_iff, ← fieldT_eq, holds, decide_eq_true_iff]

theorem channel_holds {w : ActionWord} : channel.holds w = true ↔ ∃ ch, (Fields.ofWord w).ch = encodeChannel ch := by
  rw [exists_encodeChannel_iff, ← fieldCh_eq, holds, decide_eq_true_iff]

theorem timer8_holds {w : ActionWord} :
    timer8.holds w = true ↔ ∃ t, (Fields.ofWord w).t = encodeTimer t ∧ (t != .t1) = true := by
  rw [exists_encodeTimer8_iff, ← fieldT_eq, holds]

theorem timerUnit_holds {w : ActionWord} : timerUnit.holds w = true ↔
    ∃ t u, (Fields.ofWord w).t = encodeTimer t ∧ (Fields.ofWord w).u = encodeUnit u ∧ unitOk t u = true :=
  unitFieldOk_iff

theorem timerValue_holds {w : ActionWord} : timerValue.holds w = true ↔
    ∃ t, (Fields.ofWord w).t = encodeTimer t ∧ valueOk t (Fields.ofWord w).low = true := by
  rw [holds, Bool.and_eq_true, decide_eq_true_iff, fieldT_eq, ← exists_encodeTimer_iff, ← exists_and_right]
  refine exists_congr fun t => and_congr_right fun ht => ?_
  rw [← fieldT_eq, fieldT_beq_one ht, fieldLow_eq, valueOk]

theorem timerUnitValue_holds {w : ActionWord} : timerUnitValue.holds w = true ↔
    ∃ t u, (Fields.ofWord w).t = encodeTimer t ∧ (Fields.ofWord w).u = encodeUnit u ∧
      (unitOk t u && valueOk t (Fields.ofWord w).low) = true := by
  simp only [holds, Bool.and_eq_true, unitFieldOk_iff, ← exists_and_right, and_assoc]
  refine exists_congr fun t => exists_congr fun u => and_congr_right fun ht => ?_
  rw [fieldT_beq_one ht, fieldLow_eq, valueOk]

theorem timerUnitCount_holds {w : ActionWord} : timerUnitCount.holds w = true ↔
    ∃ t u, (Fields.ofWord w).t = encodeTimer t ∧ (Fields.ofWord w).u = encodeUnit u ∧
      (unitOk t u && valueOk t (Fields.ofWord w).high) = true := by
  simp only [holds, Bool.and_eq_true, unitFieldOk_iff, ← exists_and_right, and_assoc]
  refine exists_congr fun t => exists_congr fun u => and_congr_right fun ht => ?_
  rw [fieldT_beq_one ht, fieldHigh_eq, valueOk]

end RowConstraint

/-! ### The row of an action admits its word -/

theorem timerFields_low (op : BitVec 4) (t : TimerId) (u : CmpUnit) (v : Half) :
    (timerFields op t u (0#16 ++ v)).low = v :=
  BitVec.extractLsb'_append_eq_right

theorem timerFields_high (op : BitVec 4) (t : TimerId) (u : CmpUnit) (v : Half) (mode clksel comact : BitVec 4) :
    (timerFields op t u (v ++ mode ++ clksel ++ comact ++ 0#4)).high = v :=
  (BitVec.extractLsb'_append_eq_of_le (xlo := 0#4) (by decide)).trans <|
    (BitVec.extractLsb'_append_eq_of_le (xlo := comact) (by decide)).trans <|
      (BitVec.extractLsb'_append_eq_of_le (xlo := clksel) (by decide)).trans BitVec.extractLsb'_append_eq_left

theorem OpcodeRow.admits_iff {r : OpcodeRow} {w : ActionWord} :
    r.admits w = true ↔ w &&& r.mask = r.code ∧ r.constraint.holds w = true := by
  simp [OpcodeRow.admits]

theorem rowOf_mem_opcodeTable (i : Instr) : rowOf i ∈ opcodeTable := by
  cases i <;> exact List.mem_of_elem_eq_true rfl

/-- The family `RowCode`, for every action. -/
theorem encode_and_mask (i : Instr) : encode i &&& (rowOf i).mask = (rowOf i).code := by
  cases i with
  | wrTccr0 d | wrTcnt0 d | wrOcr0 d | wrTccr2 d | wrTcnt2 d | wrOcr2 d | wrAssr d | wrTccr1a d | wrTccr1b d
  | wrTcnt1h d | wrTcnt1l d | wrOcr1ah d | wrOcr1al d | wrOcr1bh d | wrOcr1bl d | wrIcr1h d | wrIcr1l d
  | wrTimsk d | wrTifr d | wrSfior d => exact (RowCode.busWr_row _ d).trans rfl
  | pinT0 level => exact RowCode.pinT0 level
  | pinT1 level => exact RowCode.pinT1 level
  | pinIcp1 level => exact RowCode.pinIcp1 level
  | slotStore src cbid => exact RowCode.slotStore src cbid
  | invoke src => exact RowCode.invoke src
  | init t u count mode clksel comact => exact RowCode.init t u count mode clksel comact
  | disable t => exact RowCode.disable t
  | setCompare t u value => exact RowCode.setCompare t u value
  | setTimer t value => exact RowCode.setTimer t value
  | getTimer t => exact RowCode.getTimer t
  | delayMs t period => exact RowCode.delayMs t period
  | enableOvfInt t cbid => exact RowCode.enableOvfInt t cbid
  | enableCmpInt t u cbid => exact RowCode.enableCmpInt t u cbid
  | enableCaptInt cbid => exact RowCode.enableCaptInt cbid
  | disableOvfInt t => exact RowCode.disableOvfInt t
  | disableCmpInt t u => exact RowCode.disableCmpInt t u
  | dispatch src => exact RowCode.dispatch src
  | pwmInit ch freq => exact RowCode.pwmInit ch freq
  | pwmWrite ch duty => exact RowCode.pwmWrite ch duty
  | _ => rfl

theorem constraint_holds_of_wellFormed {w : ActionWord} {i : Instr} (hf : encodeFields i = Fields.ofWord w)
    (hwf : i.wellFormed = true) : (rowOf i).constraint.holds w = true := by
  cases i with
  | disable t | getTimer t | enableOvfInt t _ | disableOvfInt t =>
    exact RowConstraint.timer_holds.mpr ⟨t, (congrArg Fields.t hf).symm⟩
  | delayMs t _ => exact RowConstraint.timer8_holds.mpr ⟨t, (congrArg Fields.t hf).symm, hwf⟩
  | enableCmpInt t u _ | disableCmpInt t u =>
    exact RowConstraint.timerUnit_holds.mpr ⟨t, u, (congrArg Fields.t hf).symm, (congrArg Fields.u hf).symm, hwf⟩
  | setTimer t value =>
    refine RowConstraint.timerValue_holds.mpr ⟨t, (congrArg Fields.t hf).symm, ?_⟩
    rwa [← hf, encodeFields, timerFields_low]
  | setCompare t u value =>
    refine RowConstraint.timerUnitValue_holds.mpr ⟨t, u, (congrArg Fields.t hf).symm, (congrArg Fields.u hf).symm, ?_⟩
    rwa [← hf, encodeFields, timerFields_low]
  | init t u count mode clksel comact =>
    refine RowConstraint.timerUnitCount_holds.mpr ⟨t, u, (congrArg Fields.t hf).symm, (congrArg Fields.u hf).symm, ?_⟩
    rwa [← hf, encodeFields, timerFields_high]
  | pwmInit ch _ | pwmWrite ch _ => exact RowConstraint.channel_holds.mpr ⟨ch, (congrArg Fields.ch hf).symm⟩
  | _ => rfl

theorem admits_of_decode {w : ActionWord} {i : Instr} (h : decode w = some i) : (rowOf i).admits w = true := by
  obtain ⟨hdec, hwf⟩ := decode_eq_some.mp h
  have hf := encodeFields_of_decodeFields hdec
  have hw : encode i = w := by rw [encode, hf, Fields.toWord_ofWord]
  exact OpcodeRow.admits_iff.mpr ⟨hw ▸ encode_and_mask i, constraint_holds_of_wellFormed hf hwf⟩

/-! ### The fields of a word under a mask -/

/-- Bits that the mask keeps are those of the match word. -/
theorem bits_of_and_eq {n : Nat} {x m c : BitVec n} (h : x &&& m = c) (s k : Nat)
    (hm : m.extractLsb' s k = BitVec.allOnes k) : x.extractLsb' s k = c.extractLsb' s k := by
  rw [← h, BitVec.extractLsb'_and, hm, BitVec.and_allOnes]

theorem ofWord_and_eq {w : ActionWord} {m c : Fields} (h : w &&& m.toWord = c.toWord) :
    (Fields.ofWord w).cls &&& m.cls = c.cls ∧ (Fields.ofWord w).op &&& m.op = c.op ∧
    (Fields.ofWord w).t &&& m.t = c.t ∧ (Fields.ofWord w).u &&& m.u = c.u ∧
    (Fields.ofWord w).ch &&& m.ch = c.ch ∧ (Fields.ofWord w).payload &&& m.payload = c.payload := by
  rw [← Fields.toWord_ofWord w, RowCode.toWord_and] at h
  obtain rfl : _ = c := by simpa using congrArg Fields.ofWord h
  exact ⟨rfl, rfl, rfl, rfl, rfl, rfl⟩

theorem high_of_and_eq {f : Fields} (h : f.payload &&& 0xFFFF0000#32 = 0#32) : f.high = 0#16 :=
  bits_of_and_eq h 16 16 rfl

theorem payload_eq_of_and_eq {p c : BitVec 32} (h : p &&& 0xFFFFFFFF#32 = c) : p = c :=
  BitVec.and_allOnes.symm.trans h

theorem and_three (x : BitVec 2) : x &&& 3#2 = x := BitVec.and_allOnes

/-- A mask that keeps every field above the payload. -/
theorem fields_of_and_eq {w : ActionWord} {cls op ch : BitVec 4} {t u : BitVec 2} {m c : BitVec 32}
    (h : w &&& (Fields.mk 15#4 15#4 3#2 3#2 15#4 m).toWord = (Fields.mk cls op t u ch c).toWord) :
    (Fields.ofWord w).cls = cls ∧ (Fields.ofWord w).op = op ∧ (Fields.ofWord w).t = t ∧ (Fields.ofWord w).u = u ∧
      (Fields.ofWord w).ch = ch ∧ (Fields.ofWord w).payload &&& m = c := by
  simpa only [RowCode.and_ones, and_three] using ofWord_and_eq h

/-- The same, for a row whose T, U and CH must be 0. -/
theorem plain_of_and_eq {w : ActionWord} {cls op : BitVec 4} {m c : BitVec 32}
    (h : w &&& (Fields.mk 15#4 15#4 3#2 3#2 15#4 m).toWord = (plainFields cls op c).toWord) :
    (Fields.ofWord w).cls = cls ∧ (Fields.ofWord w).op = op ∧ (Fields.ofWord w).noTimer = true ∧
      (Fields.ofWord w).payload &&& m = c := by
  obtain ⟨hcls, hop, ht, hu, hch, hp⟩ := fields_of_and_eq h
  exact ⟨hcls, hop, (Fields.noTimer_iff _).mpr ⟨ht, hu, hch⟩, hp⟩

/-- A mask that drops T: the row uses T only. -/
theorem timer_of_and_eq {w : ActionWord} {op : BitVec 4} {m c : BitVec 32}
    (h : w &&& (Fields.mk 15#4 15#4 0#2 3#2 15#4 m).toWord = (Fields.mk 5#4 op 0#2 0#2 0#4 c).toWord) :
    (Fields.ofWord w).cls = 5#4 ∧ (Fields.ofWord w).op = op ∧
      (∀ t, (Fields.ofWord w).t = encodeTimer t → (Fields.ofWord w).timerOnly = some t) ∧
      (Fields.ofWord w).payload &&& m = c := by
  obtain ⟨hcls, hop, -, hu, hch, hp⟩ := ofWord_and_eq h
  simp only [RowCode.and_ones, and_three] at hcls hop hu hch
  exact ⟨hcls, hop, fun t ht => Fields.timerOnly_eq_some.mpr ⟨ht, hu, hch⟩, hp⟩

/-- A mask that drops T and U: the row uses both. -/
theorem unit_of_and_eq {w : ActionWord} {op : BitVec 4} {m c : BitVec 32}
    (h : w &&& (Fields.mk 15#4 15#4 0#2 0#2 15#4 m).toWord = (Fields.mk 5#4 op 0#2 0#2 0#4 c).toWord) :
    (Fields.ofWord w).cls = 5#4 ∧ (Fields.ofWord w).op = op ∧
      (∀ t u, (Fields.ofWord w).t = encodeTimer t → (Fields.ofWord w).u = encodeUnit u →
        (Fields.ofWord w).timerUnit = some (t, u)) ∧
      (Fields.ofWord w).payload &&& m = c := by
  obtain ⟨hcls, hop, -, -, hch, hp⟩ := ofWord_and_eq h
  simp only [RowCode.and_ones] at hcls hop hch
  exact ⟨hcls, hop, fun t u ht hu => Fields.timerUnit_eq_some.mpr ⟨ht, hu, hch⟩, hp⟩

/-- A mask that drops CH: the row uses CH only. -/
theorem channel_of_and_eq {w : ActionWord} {op : BitVec 4} {m c : BitVec 32}
    (h : w &&& (Fields.mk 15#4 15#4 3#2 3#2 0#4 m).toWord = (Fields.mk 5#4 op 0#2 0#2 0#4 c).toWord) :
    (Fields.ofWord w).cls = 5#4 ∧ (Fields.ofWord w).op = op ∧
      (∀ ch, (Fields.ofWord w).ch = encodeChannel ch → (Fields.ofWord w).channelOnly = some ch) ∧
      (Fields.ofWord w).payload &&& m = c := by
  obtain ⟨hcls, hop, ht, hu, -, hp⟩ := ofWord_and_eq h
  simp only [RowCode.and_ones, and_three] at hcls hop ht hu
  exact ⟨hcls, hop, fun ch hch => Fields.channelOnly_eq_some.mpr ⟨ht, hu, hch⟩, hp⟩

/-! ### The words each row admits are legal -/

theorem Reg.writeInstr_wellFormed (r : Reg) (d : Byte) : (r.writeInstr d).wellFormed = true := by
  cases r <;> rfl

theorem isSome_decode {w : ActionWord} (j : Instr) (h : decodeFields (Fields.ofWord w) = some j)
    (hwf : j.wellFormed = true) : (decode w).isSome = true :=
  Option.isSome_of_eq_some (decode_eq_some.mpr ⟨h, hwf⟩)

/-- A row without operands admits its match word alone. -/
theorem isSome_decode_of_full_mask {r : OpcodeRow} {w : ActionWord} (hmask : r.mask = BitVec.allOnes 48)
    (hcode : (decode r.code).isSome = true) (hm : w &&& r.mask = r.code) : (decode w).isSome = true := by
  rw [hmask, BitVec.and_allOnes] at hm
  rwa [hm]

theorem isSome_decode_of_busRdRow {r : OpcodeRow} {w : ActionWord} (hr : r ∈ busRdRows) (hm : w &&& r.mask = r.code) :
    (decode w).isSome = true := by
  have hrows : ∀ r ∈ busRdRows, r.mask = BitVec.allOnes 48 ∧ (decode r.code).isSome = true := by decide
  obtain ⟨hmask, hcode⟩ := hrows r hr
  exact isSome_decode_of_full_mask hmask hcode hm

theorem isSome_decode_of_busWrRow {r : OpcodeRow} {w : ActionWord} (hr : r ∈ busWrRows) (hm : w &&& r.mask = r.code) :
    (decode w).isSome = true := by
  have hrows : ∀ r ∈ busWrRows, r.mask = 0xFFFFFFFFFF00#48 ∧
      (plainFields 1#4 0#4 (Fields.ofWord r.code).payload).toWord = r.code ∧ (Fields.ofWord r.code).high = 0#16 ∧
      (Reg.ofAddr ((Fields.ofWord r.code).payload.extractLsb' 8 8)).isSome = true := by decide
  obtain ⟨hmask, hcode, hhighRow, haddrRow⟩ := hrows r hr
  obtain ⟨reg, hreg⟩ := Option.isSome_iff_exists.mp haddrRow
  rw [hmask, ← hcode] at hm
  obtain ⟨hcls, hop, hn, hp⟩ := plain_of_and_eq (m := 0xFFFFFF00#32) hm
  have hhigh : (Fields.ofWord w).high = 0#16 := (bits_of_and_eq hp 16 16 rfl).trans hhighRow
  have haddr := bits_of_and_eq hp 8 8 rfl
  refine isSome_decode (reg.writeInstr ((Fields.ofWord w).payload.extractLsb' 0 8)) ?_ (reg.writeInstr_wellFormed _)
  simp [decodeFields, hcls, decodeBusWr, hop, hn, hhigh, haddr, hreg]

theorem isSome_decode_of_pinRow {w : ActionWord} {op : BitVec 4} (hops : op ∈ [1#4, 2#4, 3#4])
    (hm : w &&& 0xFFFFFFFFFFFE#48 = (plainFields 2#4 op 0#32).toWord) : (decode w).isSome = true := by
  obtain ⟨hcls, hop, hn, hp⟩ := plain_of_and_eq (m := 0xFFFFFFFE#32) hm
  have hbits := bits_of_and_eq hp 1 31 rfl
  simp only [List.mem_cons, List.not_mem_nil, or_false] at hops
  obtain rfl | rfl | rfl := hops <;>
    simp [decode, decodeFields, hcls, decodeEvent, hop, hn, hbits, Instr.wellFormed]

/-- The rows of the classes EVENT, CORE and SLOT. -/
theorem isSome_decode_of_otherRow {w : ActionWord} :
    ∀ r ∈ otherRows, w &&& r.mask = r.code → (decode w).isSome = true := by
  simp only [otherRows, List.forall_mem_cons]
  refine ⟨?clk, ?pinT0, ?pinT1, ?pinIcp1, ?sei, ?cli, ?accept, ?reti, ?slotStore, ?invoke, by simp⟩ <;> intro hm
  case clk | sei | cli | accept | reti => exact isSome_decode_of_full_mask rfl rfl hm
  case pinT0 => exact isSome_decode_of_pinRow (op := 1#4) (by simp) hm
  case pinT1 => exact isSome_decode_of_pinRow (op := 2#4) (by simp) hm
  case pinIcp1 => exact isSome_decode_of_pinRow (op := 3#4) (by simp) hm
  case slotStore =>
    obtain ⟨hcls, hop, hn, hp⟩ := plain_of_and_eq (cls := 4#4) (op := 0#4) (m := 0xFFF80000#32) (c := 0#32) hm
    have hbits := bits_of_and_eq hp 19 13 rfl
    exact isSome_decode
      (.slotStore (decodeSource ((Fields.ofWord w).payload.extractLsb' 16 3)) (Fields.ofWord w).low)
      (by simp [decodeFields, hcls, decodeSlot, hop, hn, hbits]) rfl
  case invoke =>
    obtain ⟨hcls, hop, hn, hp⟩ := plain_of_and_eq (cls := 4#4) (op := 1#4) (m := 0xFFF8FFFF#32) (c := 0#32) hm
    have hbits := bits_of_and_eq hp 19 13 rfl
    have hlow : (Fields.ofWord w).low = 0#16 := bits_of_and_eq hp 0 16 rfl
    exact isSome_decode (.invoke (decodeSource ((Fields.ofWord w).payload.extractLsb' 16 3)))
      (by simp [decodeFields, hcls, decodeSlot, hop, hn, hbits, hlow]) rfl

/-- The rows of class DRIVER. -/
theorem isSome_decode_of_driverRow {w : ActionWord} :
    ∀ r ∈ driverRows, w &&& r.mask = r.code → r.constraint.holds w = true → (decode w).isSome = true := by
  simp only [driverRows, List.forall_mem_cons]
  refine ⟨?init, ?disable, ?setCompare, ?setTimer, ?getTimer, ?delayMs, ?enableOvfInt, ?enableCmpInt, ?enableCaptInt,
    ?disableOvfInt, ?disableCmpInt, ?disableCaptInt, ?dispatch, ?pwmInit, ?pwmWrite, by simp⟩ <;> intro hm hc
  case init =>
    obtain ⟨hcls, hop, hunit, hp⟩ := unit_of_and_eq (op := 0#4) (m := 0xF#32) (c := 0#32) hm
    obtain ⟨t, u, ht, hu, hwf⟩ := RowConstraint.timerUnitCount_holds.mp hc
    have hbits := bits_of_and_eq hp 0 4 rfl
    exact isSome_decode
      (.init t u (Fields.ofWord w).high ((Fields.ofWord w).payload.extractLsb' 12 4)
        ((Fields.ofWord w).payload.extractLsb' 8 4) ((Fields.ofWord w).payload.extractLsb' 4 4))
      (by simp [decodeFields, hcls, decodeDriver, hop, hbits, hunit t u ht hu]) hwf
  case disable =>
    obtain ⟨hcls, hop, htimer, hp⟩ := timer_of_and_eq (op := 1#4) (m := 0xFFFFFFFF#32) (c := 0#32) hm
    obtain ⟨t, ht⟩ := RowConstraint.timer_holds.mp hc
    have hpayload := payload_eq_of_and_eq hp
    exact isSome_decode (.disable t) (by simp [decodeFields, hcls, decodeDriver, hop, hpayload, htimer t ht]) rfl
  case setCompare =>
    obtain ⟨hcls, hop, hunit, hp⟩ := unit_of_and_eq (op := 2#4) (m := 0xFFFF0000#32) (c := 0#32) hm
    obtain ⟨t, u, ht, hu, hwf⟩ := RowConstraint.timerUnitValue_holds.mp hc
    have hhigh := high_of_and_eq hp
    exact isSome_decode (.setCompare t u (Fields.ofWord w).low)
      (by simp [decodeFields, hcls, decodeDriver, hop, hhigh, hunit t u ht hu]) hwf
  case setTimer =>
    obtain ⟨hcls, hop, htimer, hp⟩ := timer_of_and_eq (op := 3#4) (m := 0xFFFF0000#32) (c := 0#32) hm
    obtain ⟨t, ht, hwf⟩ := RowConstraint.timerValue_holds.mp hc
    have hhigh := high_of_and_eq hp
    exact isSome_decode (.setTimer t (Fields.ofWord w).low)
      (by simp [decodeFields, hcls, decodeDriver, hop, hhigh, htimer t ht]) hwf
  case getTimer =>
    obtain ⟨hcls, hop, htimer, hp⟩ := timer_of_and_eq (op := 4#4) (m := 0xFFFFFFFF#32) (c := 0#32) hm
    obtain ⟨t, ht⟩ := RowConstraint.timer_holds.mp hc
    have hpayload := payload_eq_of_and_eq hp
    exact isSome_decode (.getTimer t) (by simp [decodeFields, hcls, decodeDriver, hop, hpayload, htimer t ht]) rfl
  case delayMs =>
    obtain ⟨hcls, hop, htimer, -⟩ := timer_of_and_eq (op := 5#4) (m := 0#32) (c := 0#32) hm
    obtain ⟨t, ht, hwf⟩ := RowConstraint.timer8_holds.mp hc
    exact isSome_decode (.delayMs t (Fields.ofWord w).payload)
      (by simp [decodeFields, hcls, decodeDriver, hop, htimer t ht]) hwf
  case enableOvfInt =>
    obtain ⟨hcls, hop, htimer, hp⟩ := timer_of_and_eq (op := 6#4) (m := 0xFFFF0000#32) (c := 0#32) hm
    obtain ⟨t, ht⟩ := RowConstraint.timer_holds.mp hc
    have hhigh := high_of_and_eq hp
    exact isSome_decode (.enableOvfInt t (Fields.ofWord w).low)
      (by simp [decodeFields, hcls, decodeDriver, hop, hhigh, htimer t ht]) rfl
  case enableCmpInt =>
    obtain ⟨hcls, hop, hunit, hp⟩ := unit_of_and_eq (op := 7#4) (m := 0xFFFF0000#32) (c := 0#32) hm
    obtain ⟨t, u, ht, hu, hwf⟩ := RowConstraint.timerUnit_holds.mp hc
    have hhigh := high_of_and_eq hp
    exact isSome_decode (.enableCmpInt t u (Fields.ofWord w).low)
      (by simp [decodeFields, hcls, decodeDriver, hop, hhigh, hunit t u ht hu]) hwf
  case enableCaptInt =>
    obtain ⟨hcls, hop, ht, hu, hch, hp⟩ := fields_of_and_eq (cls := 5#4) (op := 8#4) (t := 1#2) (u := 0#2) (ch := 0#4)
      (m := 0xFFFF0000#32) (c := 0#32) hm
    have htimer1 := (Fields.timer1Only_iff _).mpr ⟨ht, hu, hch⟩
    have hhigh := high_of_and_eq hp
    exact isSome_decode (.enableCaptInt (Fields.ofWord w).low)
      (by simp [decodeFields, hcls, decodeDriver, hop, htimer1, hhigh]) rfl
  case disableOvfInt =>
    obtain ⟨hcls, hop, htimer, hp⟩ := timer_of_and_eq (op := 9#4) (m := 0xFFFFFFFF#32) (c := 0#32) hm
    obtain ⟨t, ht⟩ := RowConstraint.timer_holds.mp hc
    have hpayload := payload_eq_of_and_eq hp
    exact isSome_decode (.disableOvfInt t) (by simp [decodeFields, hcls, decodeDriver, hop, hpayload, htimer t ht]) rfl
  case disableCmpInt =>
    obtain ⟨hcls, hop, hunit, hp⟩ := unit_of_and_eq (op := 10#4) (m := 0xFFFFFFFF#32) (c := 0#32) hm
    obtain ⟨t, u, ht, hu, hwf⟩ := RowConstraint.timerUnit_holds.mp hc
    have hpayload := payload_eq_of_and_eq hp
    exact isSome_decode (.disableCmpInt t u)
      (by simp [decodeFields, hcls, decodeDriver, hop, hpayload, hunit t u ht hu]) hwf
  case disableCaptInt => exact isSome_decode_of_full_mask rfl rfl hm
  case dispatch =>
    obtain ⟨hcls, hop, hn, hp⟩ := plain_of_and_eq (cls := 5#4) (op := 12#4) (m := 0xFFFFFFF8#32) (c := 0#32) hm
    have hbits := bits_of_and_eq hp 3 29 rfl
    exact isSome_decode (.dispatch (decodeSource ((Fields.ofWord w).payload.extractLsb' 0 3)))
      (by simp [decodeFields, hcls, decodeDriver, hop, hn, hbits]) rfl
  case pwmInit =>
    obtain ⟨hcls, hop, hchannel, -⟩ := channel_of_and_eq (op := 13#4) (m := 0#32) (c := 0#32) hm
    obtain ⟨ch, hch⟩ := RowConstraint.channel_holds.mp hc
    exact isSome_decode (.pwmInit ch (Fields.ofWord w).payload)
      (by simp [decodeFields, hcls, decodeDriver, hop, hchannel ch hch]) rfl
  case pwmWrite =>
    obtain ⟨hcls, hop, hchannel, hp⟩ := channel_of_and_eq (op := 14#4) (m := 0xFFFFFF00#32) (c := 0#32) hm
    obtain ⟨ch, hch⟩ := RowConstraint.channel_holds.mp hc
    have hbits := bits_of_and_eq hp 8 24 rfl
    exact isSome_decode (.pwmWrite ch ((Fields.ofWord w).payload.extractLsb' 0 8))
      (by simp [decodeFields, hcls, decodeDriver, hop, hbits, hchannel ch hch]) rfl

/-! ### Legal words are those a row admits -/

theorem isSome_decode_of_admits {r : OpcodeRow} {w : ActionWord} (hr : r ∈ opcodeTable) (h : r.admits w = true) :
    (decode w).isSome = true := by
  obtain ⟨hm, hc⟩ := OpcodeRow.admits_iff.mp h
  simp only [opcodeTable, List.mem_append] at hr
  obtain ((hr | hr) | hr) | hr := hr
  · exact isSome_decode_of_busRdRow hr hm
  · exact isSome_decode_of_busWrRow hr hm
  · exact isSome_decode_of_otherRow r hr hm
  · exact isSome_decode_of_driverRow r hr hm hc

/-- Settles O3: `admits_of_decode` one way, and the other way `isSome_decode_of_admits`, list by list of the table. -/
theorem legalWordsMatchARow : Obligations.LegalWordsMatchARow := by
  refine fun w => ⟨⟨fun h => ?_, ?_⟩, fun i h => ⟨admits_of_decode h, rowOf_mem_opcodeTable i⟩⟩
  · obtain ⟨i, hi⟩ := Option.isSome_iff_exists.mp h
    exact ⟨rowOf i, rowOf_mem_opcodeTable i, admits_of_decode hi⟩
  · rintro ⟨r, hr, h⟩
    exact isSome_decode_of_admits hr h

end Sys2Proof
end

section
/-! PROOFS. The layer of facts for the register accesses (spec 40_register_access.md): fields and joins of bits as
arithmetic, the bus words of R103, and what a bus action does to the state. -/

namespace Sys2Proof.Machine

/-! ### Fields and joins of bits as arithmetic (R10) -/

@[simp] theorem toNat_field {w : Nat} (v : BitVec w) (lo n : Nat) : (field v lo n).toNat = v.toNat / 2 ^ lo % 2 ^ n := by
  rw [field, BitVec.extractLsb'_toNat, Nat.shiftRight_eq_div_pow]

theorem toNat_append_eq_add {m n : Nat} (x : BitVec m) (y : BitVec n) : (x ++ y).toNat = x.toNat * 2 ^ n + y.toNat := by
  rw [BitVec.toNat_append, ← Nat.shiftLeft_add_eq_or_of_lt y.isLt, Nat.shiftLeft_eq]

theorem getLsbD_eq_decide {w : Nat} (v : BitVec w) (i : Nat) : v.getLsbD i = decide (v.toNat / 2 ^ i % 2 = 1) := by
  rw [← BitVec.testBit_toNat, Nat.testBit_eq_decide_div_mod_eq]

theorem getLsbD_iff {w : Nat} (v : BitVec w) (i : Nat) : v.getLsbD i = true ↔ v.toNat / 2 ^ i % 2 = 1 := by
  rw [getLsbD_eq_decide, decide_eq_true_iff]

theorem getLsbD_seven_iff (d : Byte) : d.getLsbD 7 = true ↔ 128 ≤ d.toNat := by
  rw [getLsbD_iff]
  omega

theorem loByte_eq_ofNat (v : Half) : loByte v = BitVec.ofNat 8 (v.toNat % 256) := by
  refine BitVec.eq_of_toNat_eq ?_
  simp [loByte]

theorem hiByte_eq_ofNat (v : Half) : hiByte v = BitVec.ofNat 8 (v.toNat / 256) := by
  refine BitVec.eq_of_toNat_eq ?_
  simp [hiByte, Nat.shiftRight_eq_div_pow]

theorem pair_eq_of_toNat {h l : Byte} {v : Half} (hv : v.toNat = 256 * h.toNat + l.toNat) : pair h l = v := by
  refine BitVec.eq_of_toNat_eq ?_
  rw [pair, toNat_append_eq_add, hv]
  omega

/-! ### Bus words (R103, R104) -/

theorem readWord_addr (r : Reg) : readWord r.addr.toNat = (busRdFields r).toWord := by
  cases r <;> rfl

theorem writeWord_addr (r : Reg) (d : Byte) : writeWord r.addr.toNat d = (busWrFields r d).toWord := by
  refine BitVec.eq_of_toNat_eq ?_
  simp only [writeWord, busWrFields, plainFields, Fields.toWord, toNat_append_eq_add, BitVec.toNat_ofNat]
  omega

theorem decodeBusRd_busRdFields (r : Reg) : decodeBusRd (busRdFields r) = some r.readInstr := by
  cases r <;> rfl

/-- ADDR and DATA are the two low bytes of the payload. -/
theorem decodeBusWr_busWrFields (r : Reg) (d : Byte) : decodeBusWr (busWrFields r d) = some (r.writeInstr d) := by
  have haddr : (0#16 ++ r.addr ++ d).extractLsb' 8 8 = r.addr :=
    (BitVec.extractLsb'_append_eq_of_le (by decide)).trans BitVec.extractLsb'_append_eq_right
  have hdata : (0#16 ++ r.addr ++ d).extractLsb' 0 8 = d := BitVec.extractLsb'_append_eq_right
  have hhigh : (busWrFields r d).high = 0#16 :=
    (BitVec.extractLsb'_append_eq_of_le (xlo := d) (by decide)).trans BitVec.extractLsb'_append_eq_left
  have hreg : Reg.ofAddr r.addr = some r := Reg.ofAddr_eq_some.mpr rfl
  rw [decodeBusWr, hhigh, busWrFields, plainFields, haddr, hdata, hreg]
  rfl

theorem decode_readWord_addr (r : Reg) : decode (readWord r.addr.toNat) = some r.readInstr := by
  refine decode_eq_some.mpr ⟨?_, by cases r <;> rfl⟩
  rw [readWord_addr, Fields.ofWord_toWord]
  exact decodeBusRd_busRdFields r

theorem decode_writeWord_addr (r : Reg) (d : Byte) : decode (writeWord r.addr.toNat d) = some (r.writeInstr d) := by
  refine decode_eq_some.mpr ⟨?_, r.writeInstr_wellFormed d⟩
  rw [writeWord_addr, Fields.ofWord_toWord]
  exact decodeBusWr_busWrFields r d

theorem decode_readWords (rs : List Reg) :
    ∀ p ∈ rs.map fun r => (r.addr.toNat, r.readInstr), decode (readWord p.1) = some p.2 :=
  List.forall_mem_map.mpr fun r _ => decode_readWord_addr r

theorem decode_writeWords (rs : List Reg) (d : Byte) :
    ∀ p ∈ rs.map fun r => (r.addr.toNat, r.writeInstr d), decode (writeWord p.1 d) = some p.2 :=
  List.forall_mem_map.mpr fun r _ => decode_writeWord_addr r d

/-! ### Bus actions (R150, R151) -/

/-- A read, from the byte it returns and the state its side effect leaves. -/
theorem exec_readInstr_eq {r : Reg} {s s' : State} {v : Byte} (hv : s.readValue r = v) (he : s.readEffect r = s') :
    exec r.readInstr s = .next { s' with rdata := v, shadow := false } := by
  rw [exec_readInstr, ← hv, ← he]
  rfl

/-- A write that is not refused: only a write of ASSR can be (R404). -/
theorem exec_writeInstr_eq {r : Reg} {s s' : State} {d : Byte} (hr : r ≠ .assr) (he : s.writeEffect d r = s') :
    exec (r.writeInstr d) s = .next { s' with shadow := false } := by
  rw [exec_writeInstr, ← he]
  exact busWrite_next.mpr ⟨fun h => hr h.1, rfl⟩

end Sys2Proof.Machine
end

section
/-! PROOFS. The reads of the 20 registers (spec 40_register_access.md R152 to R210): O14 and O15. -/

namespace Sys2Proof.Machine

/-! ### The bytes read, bit place by bit place -/

theorem Timer8.readTccr_eq (t : Timer8) :
    t.readTccr = BitVec.ofNat 8 (64 * (t.wgm.toNat % 2) + 16 * t.com.toNat + 8 * (t.wgm.toNat / 2) + t.cs.toNat) := by
  refine BitVec.eq_of_toNat_eq ?_
  simp only [Timer8.readTccr, toNat_append_eq_add, toNat_field, BitVec.toNat_ofNat, Nat.reducePow, Nat.div_one]
  have hbit : t.wgm.toNat / 2 % 2 = t.wgm.toNat / 2 := by omega
  rw [hbit]
  omega

theorem Timer1.readTccrA_eq (t : Timer1) :
    t.readTccrA = BitVec.ofNat 8 (64 * t.comA.toNat + 16 * t.comB.toNat + t.wgm.toNat % 4) := by
  refine BitVec.eq_of_toNat_eq ?_
  simp only [Timer1.readTccrA, toNat_append_eq_add, toNat_field, BitVec.toNat_ofNat]
  omega

theorem Timer1.readTccrB_eq (t : Timer1) :
    t.readTccrB = BitVec.ofNat 8 ((if t.icnc then 128 else 0) + (if t.ices then 64 else 0) + 8 * (t.wgm.toNat / 4)
      + t.cs.toNat) := by
  refine BitVec.eq_of_toNat_eq ?_
  simp only [Timer1.readTccrB, toNat_append_eq_add, toNat_field, BitVec.toNat_ofBool, BitVec.toNat_ofNat, Bool.toNat,
    Bool.cond_eq_ite]
  split <;> split <;> omega

theorem State.readAssr_eq (s : State) : s.readAssr = if s.as2 then 8#8 else 0#8 := by
  unfold State.readAssr
  cases s.as2 <;> rfl

theorem State.readSfior_eq (s : State) :
    s.readSfior = BitVec.ofNat 8 (32 * s.adts.toNat + (if s.acme then 8 else 0) + (if s.pud then 4 else 0)) := by
  refine BitVec.eq_of_toNat_eq ?_
  simp only [State.readSfior, toNat_append_eq_add, BitVec.toNat_ofBool, BitVec.toNat_ofNat, Bool.toNat,
    Bool.cond_eq_ite]
  split <;> split <;> omega

/-! ### The reads -/

/-- Settles O14: none of the ten reads has a side effect; the registers made of fields return the bytes above. -/
theorem readsOfByteRegisters : Obligations.ReadsOfByteRegisters := fun s =>
  ⟨exec_readInstr_eq (r := .tccr0) s.t0.readTccr_eq rfl,
    exec_readInstr_eq (r := .tcnt0) rfl rfl,
    exec_readInstr_eq (r := .ocr0) rfl rfl,
    exec_readInstr_eq (r := .tccr2) s.t2.readTccr_eq rfl,
    exec_readInstr_eq (r := .tcnt2) rfl rfl,
    exec_readInstr_eq (r := .ocr2) rfl rfl,
    exec_readInstr_eq (r := .assr) s.readAssr_eq rfl,
    exec_readInstr_eq (r := .timsk) rfl rfl,
    exec_readInstr_eq (r := .tifr) rfl rfl,
    exec_readInstr_eq (r := .sfior) s.readSfior_eq rfl,
    decode_readWords [.tccr0, .tcnt0, .ocr0, .tccr2, .tcnt2, .ocr2, .assr, .timsk, .tifr, .sfior]⟩

/-- Settles O15: the low bytes of TCNT1 and ICR1 set TEMP1 to the high byte, and no other read has a side effect. -/
theorem readsOfTimer1 : Obligations.ReadsOfTimer1 := fun s =>
  ⟨exec_readInstr_eq (r := .tccr1a) s.t1.readTccrA_eq rfl,
    exec_readInstr_eq (r := .tccr1b) s.t1.readTccrB_eq rfl,
    exec_readInstr_eq (r := .tcnt1l) (loByte_eq_ofNat _) (congrArg s.setTemp (hiByte_eq_ofNat _)),
    exec_readInstr_eq (r := .tcnt1h) rfl rfl,
    exec_readInstr_eq (r := .icr1l) (loByte_eq_ofNat _) (congrArg s.setTemp (hiByte_eq_ofNat _)),
    exec_readInstr_eq (r := .icr1h) rfl rfl,
    exec_readInstr_eq (r := .ocr1al) (loByte_eq_ofNat _) rfl,
    exec_readInstr_eq (r := .ocr1ah) (hiByte_eq_ofNat _) rfl,
    exec_readInstr_eq (r := .ocr1bl) (loByte_eq_ofNat _) rfl,
    exec_readInstr_eq (r := .ocr1bh) (hiByte_eq_ofNat _) rfl,
    decode_readWords [.tccr1a, .tccr1b, .tcnt1h, .tcnt1l, .ocr1ah, .ocr1al, .ocr1bh, .ocr1bl, .icr1h, .icr1l]⟩

end Sys2Proof.Machine
end

section
/-! PROOFS. The writes of the registers of Timer0 and Timer2 (spec 40_register_access.md R153 to R165, R174 to R176):
O18 and O19. -/

namespace Sys2Proof.Machine

/-! ### Modes of an 8-bit timer (R110) -/

theorem class8_unbuffered_iff (wgm : BitVec 2) : (class8 wgm).unbuffered = true ↔ wgm = 0#2 ∨ wgm = 2#2 := by
  decide +revert

/-- The strobe acts in NORMAL and CTC only (R266). -/
theorem forced_class8 (wgm com : BitVec 2) (oc : Bool) :
    forced (class8 wgm) com oc = if wgm = 0#2 ∨ wgm = 2#2 then actOn com oc else oc := by
  decide +revert

/-- FOC0 or FOC2 in a mode where the strobe acts. -/
theorem strobe_class8 (d : Byte) (wgm com : BitVec 2) (oc : Bool) :
    (if d.getLsbD 7 then forced (class8 wgm) com oc else oc) =
      if 128 ≤ d.toNat ∧ (wgm = 0#2 ∨ wgm = 2#2) then actOn com oc else oc := by
  rw [forced_class8, ← ite_and]
  exact if_congr (and_congr_left' (getLsbD_seven_iff d)) rfl rfl

/-! ### What the write rules leave -/

theorem Timer8.modeChanged_eq (t : Timer8) :
    t.modeChanged = { t with ocrAct := if t.wgm = 0#2 ∨ t.wgm = 2#2 then t.ocrBuf else t.ocrAct } := by
  simp only [Timer8.modeChanged, class8_unbuffered_iff]
  split <;> rfl

/-- A control write, as one record update after the mode change (R153, R161). -/
theorem Timer8.writeTccr_eq (t : Timer8) (d : Byte) :
    t.writeTccr d =
      let x := Timer8.modeChanged
        { t with wgm := field d 3 1 ++ field d 6 1, com := field d 4 2, cs := field d 0 3 }
      { x with oc := if d.getLsbD 7 then forced (class8 x.wgm) x.com t.oc else t.oc } := by
  unfold Timer8.writeTccr
  simp only [Timer8.modeChanged_eq]
  cases d.getLsbD 7 <;> rfl

/-- The active compare value follows in modes 0 and 2 (R174). -/
theorem Timer8.writeOcr_eq (t : Timer8) (d : Byte) :
    t.writeOcr d = { t with ocrBuf := d, ocrAct := if t.wgm = 0#2 ∨ t.wgm = 2#2 then d else t.ocrAct } := by
  unfold Timer8.writeOcr
  rw [if_congr (class8_unbuffered_iff t.wgm) rfl rfl]

/-! ### Timer0 and Timer2 at once -/

theorem exec_write_tccrOf (n : Timer8Id) (d : Byte) (s : State) :
    exec ((tccrOf n).writeInstr d) s = .next { s.withTimer8 n ((s.timer8 n).writeTccr d) with shadow := false } := by
  cases n <;> exact exec_writeInstr_eq (by decide) rfl

theorem exec_write_tcntOf (n : Timer8Id) (d : Byte) (s : State) :
    exec ((tcntOf n).writeInstr d) s = .next { s.withTimer8 n ((s.timer8 n).writeTcnt d) with shadow := false } := by
  cases n <;> exact exec_writeInstr_eq (by decide) rfl

theorem exec_write_ocrOf (n : Timer8Id) (d : Byte) (s : State) :
    exec ((ocrOf n).writeInstr d) s = .next { s.withTimer8 n ((s.timer8 n).writeOcr d) with shadow := false } := by
  cases n <;> exact exec_writeInstr_eq (by decide) rfl

/-! ### The writes -/

/-- Settles O18: the timer is that of `Timer8.writeTccr_eq`, whose fields of d are read as numbers. -/
theorem controlWriteOfTimer8 : Obligations.ControlWriteOfTimer8 := by
  intro n d s
  refine ⟨(s.timer8 n).writeTccr d, exec_write_tccrOf n d s, ?_⟩
  rw [Timer8.writeTccr_eq, Timer8.modeChanged_eq]
  refine ⟨?wgm, toNat_field d 4 2, ?cs, rfl, strobe_class8 d _ _ _, rfl, rfl, rfl, rfl, ?word⟩
  case wgm =>
    simp only [toNat_append_eq_add, toNat_field]
    omega
  case cs =>
    rw [toNat_field]
    omega
  case word =>
    cases n with
    | t0 => exact decode_writeWord_addr .tccr0 d
    | t2 => exact decode_writeWord_addr .tccr2 d

/-- Settles O19: by `Timer8.writeTcnt` and `Timer8.writeOcr_eq`. -/
theorem counterAndCompareWriteOfTimer8 : Obligations.CounterAndCompareWriteOfTimer8 := by
  intro n d s
  refine ⟨exec_write_tcntOf n d s, ?compare, ?tcntWord, ?ocrWord⟩
  case compare => rw [exec_write_ocrOf, Timer8.writeOcr_eq]
  case tcntWord =>
    cases n with
    | t0 => exact decode_writeWord_addr .tcnt0 d
    | t2 => exact decode_writeWord_addr .tcnt2 d
  case ocrWord =>
    cases n with
    | t0 => exact decode_writeWord_addr .ocr0 d
    | t2 => exact decode_writeWord_addr .ocr2 d

end Sys2Proof.Machine
end

section
/-! PROOFS. The writes of Timer1's registers (spec 40_register_access.md R171 to R193): O20 and O21. -/

namespace Sys2Proof.Machine

/-! ### Modes of Timer1 (R111) -/

theorem class1_unbuffered_iff (wgm : BitVec 4) :
    (class1 wgm).unbuffered = true ↔ wgm ∈ [0#4, 4#4, 12#4, 13#4] := by
  decide +revert

theorem icrIsTop_iff (wgm : BitVec 4) : icrIsTop wgm = true ↔ wgm ∈ [8#4, 10#4, 12#4, 14#4] := by
  decide +revert

/-- The strobe acts in NORMAL and CTC only (R266). -/
theorem forced_class1 (wgm : BitVec 4) (com : BitVec 2) (oc : Bool) :
    forced (class1 wgm) com oc = if wgm ∈ [0#4, 4#4, 12#4] then actOn com oc else oc := by
  decide +revert

/-- FOC1A or FOC1B in a mode where the strobe acts. -/
theorem strobe_class1 (d : Byte) (i : Nat) (wgm : BitVec 4) (com : BitVec 2) (oc : Bool) :
    (if d.getLsbD i then forced (class1 wgm) com oc else oc) =
      if d.toNat / 2 ^ i % 2 = 1 ∧ wgm ∈ [0#4, 4#4, 12#4] then actOn com oc else oc := by
  rw [forced_class1, ← ite_and]
  exact if_congr (and_congr_left' (getLsbD_iff d i)) rfl rfl

/-! ### What the write rules leave -/

theorem Timer1.modeChanged_eq (t : Timer1) :
    t.modeChanged = { t with
      ocrAAct := if t.wgm ∈ [0#4, 4#4, 12#4, 13#4] then t.ocrABuf else t.ocrAAct
      ocrBAct := if t.wgm ∈ [0#4, 4#4, 12#4, 13#4] then t.ocrBBuf else t.ocrBAct } := by
  simp only [Timer1.modeChanged, class1_unbuffered_iff]
  split <;> rfl

/-- A write of TCCR1A, as one record update (R171). -/
theorem Timer1.writeTccrA_eq (t : Timer1) (d : Byte) :
    t.writeTccrA d =
      let x := Timer1.modeChanged
        { t with comA := field d 6 2, comB := field d 4 2, wgm := field t.wgm 2 2 ++ field d 0 2 }
      { x with
        ocA := if d.getLsbD 3 then forced (class1 x.wgm) x.comA t.ocA else t.ocA
        ocB := if d.getLsbD 2 then forced (class1 x.wgm) x.comB t.ocB else t.ocB } := by
  unfold Timer1.writeTccrA
  simp only [Timer1.modeChanged_eq]
  cases d.getLsbD 3 <;> cases d.getLsbD 2 <;> rfl

/-- The active compare value follows in modes 0, 4, 12 and 13 (R174). -/
theorem Timer1.writeOcrA_eq (t : Timer1) (v : Half) :
    t.writeOcrA v = { t with
      ocrABuf := v
      ocrAAct := if t.wgm ∈ [0#4, 4#4, 12#4, 13#4] then v else t.ocrAAct } := by
  unfold Timer1.writeOcrA
  rw [if_congr (class1_unbuffered_iff t.wgm) rfl rfl]

theorem Timer1.writeOcrB_eq (t : Timer1) (v : Half) :
    t.writeOcrB v = { t with
      ocrBBuf := v
      ocrBAct := if t.wgm ∈ [0#4, 4#4, 12#4, 13#4] then v else t.ocrBAct } := by
  unfold Timer1.writeOcrB
  rw [if_congr (class1_unbuffered_iff t.wgm) rfl rfl]

/-- ICR1 is written only where it is TOP (R193). -/
theorem Timer1.writeIcrL_eq (t : Timer1) (d : Byte) :
    t.writeIcrL d = { t with icr := if t.wgm ∈ [8#4, 10#4, 12#4, 14#4] then pair t.temp d else t.icr } := by
  simp only [Timer1.writeIcrL, icrIsTop_iff]
  split <;> rfl

/-! ### The writes -/

/-- Settles O20: the timer is that of `Timer1.writeTccrA_eq` or of `Timer1.writeTccrB` with its mode change, whose
fields of d are read as numbers. -/
theorem controlWriteOfTimer1 : Obligations.ControlWriteOfTimer1 := by
  intro d s
  refine ⟨⟨s.t1.writeTccrA d, exec_writeInstr_eq (r := .tccr1a) (by decide) rfl, ?tccr1a⟩,
    ⟨s.t1.writeTccrB d, exec_writeInstr_eq (r := .tccr1b) (by decide) rfl, ?tccr1b⟩,
    decode_writeWord_addr .tccr1a d, decode_writeWord_addr .tccr1b d⟩
  case tccr1a =>
    rw [Timer1.writeTccrA_eq, Timer1.modeChanged_eq]
    refine ⟨?comA, toNat_field d 4 2, ?wgm, strobe_class1 d 3 _ _ _, strobe_class1 d 2 _ _ _,
      rfl, rfl, rfl, rfl, rfl, rfl, rfl, rfl, rfl, rfl, rfl, rfl⟩
    case comA =>
      simp only [toNat_field]
      omega
    case wgm =>
      simp only [toNat_append_eq_add, toNat_field]
      omega
  case tccr1b =>
    rw [Timer1.writeTccrB, Timer1.modeChanged_eq]
    refine ⟨?icnc, ?ices, ?wgm, ?cs, rfl, rfl, rfl, rfl, rfl, rfl, rfl, rfl, rfl, rfl, rfl, rfl, rfl⟩
    case icnc => exact Bool.eq_iff_iff.mpr ((getLsbD_seven_iff d).trans decide_eq_true_iff.symm)
    case ices => exact getLsbD_eq_decide d 6
    case wgm =>
      simp only [toNat_append_eq_add, toNat_field]
      omega
    case cs =>
      rw [toNat_field]
      omega

/-- Settles O21: the premise makes v the pair TEMP1:d that the low writes store. -/
theorem sixteenBitRegisterWrites : Obligations.SixteenBitRegisterWrites := by
  intro d s v hv
  obtain rfl : pair s.t1.temp d = v := pair_eq_of_toNat hv
  refine ⟨?high, ?tcnt1l, ?ocr1al, ?ocr1bl, ?icr1l,
    decode_writeWords [.tcnt1h, .tcnt1l, .ocr1ah, .ocr1al, .ocr1bh, .ocr1bl, .icr1h, .icr1l] d⟩
  case high =>
    simp only [List.forall_mem_cons]
    exact ⟨exec_writeInstr_eq (r := .tcnt1h) (by decide) rfl, exec_writeInstr_eq (r := .ocr1ah) (by decide) rfl,
      exec_writeInstr_eq (r := .ocr1bh) (by decide) rfl, exec_writeInstr_eq (r := .icr1h) (by decide) rfl, by simp⟩
  case tcnt1l => exact exec_writeInstr_eq (r := .tcnt1l) (by decide) rfl
  case ocr1al =>
    exact exec_writeInstr_eq (r := .ocr1al) (by decide) (congrArg ({ s with t1 := · }) (s.t1.writeOcrA_eq _))
  case ocr1bl =>
    exact exec_writeInstr_eq (r := .ocr1bl) (by decide) (congrArg ({ s with t1 := · }) (s.t1.writeOcrB_eq _))
  case icr1l =>
    exact exec_writeInstr_eq (r := .icr1l) (by decide) (congrArg ({ s with t1 := · }) (s.t1.writeIcrL_eq _))

end Sys2Proof.Machine
end

section
/-! PROOFS. The writes of TIMSK, TIFR, SFIOR and ASSR (spec 40_register_access.md R167, R201, R207, R211): O22. -/

namespace Sys2Proof.Machine

theorem getLsbD_clearWritten (d tifr : Byte) {k : Nat} (hk : k < 8) :
    (clearWritten d tifr).getLsbD k = (tifr.getLsbD k && !d.getLsbD k) := by
  simp [clearWritten, hk]

/-- A write of SFIOR, with d's bits read as numbers (R211). -/
theorem State.writeSfior_eq (s : State) (d : Byte) :
    s.writeSfior d = { s with
      adts := field d 5 3
      acme := decide (d.toNat / 8 % 2 = 1)
      pud := decide (d.toNat / 4 % 2 = 1)
      p2 := if d.toNat / 2 % 2 = 1 then 0#10 else s.p2
      p01 := if d.toNat % 2 = 1 then 0#10 else s.p01 } := by
  simp only [State.writeSfior, getLsbD_eq_decide, decide_eq_true_eq, Nat.reducePow, Nat.div_one]

/-- Bit 3 of ASSR is refused, so that AS2 is never written 1 (R167, R404). -/
theorem exec_wrAssr (d : Byte) (s : State) :
    exec (.wrAssr d) s =
      if d.toNat / 8 % 2 = 1 then .refused (.asyncT2 d) else .next { s with as2 := false, shadow := false } := by
  have hbit : d.getLsbD 3 = true ↔ d.toNat / 8 % 2 = 1 := getLsbD_iff d 3
  rw [← if_congr hbit rfl rfl]
  refine (exec_writeInstr .assr d s).trans ?_
  unfold State.busWrite State.writeEffect
  cases d.getLsbD 3 with
  | true => rfl
  | false => rfl

/-- Settles O22: the four writes one by one. -/
theorem maskFlagAndPrescalerWrites : Obligations.MaskFlagAndPrescalerWrites := by
  intro d s
  refine ⟨?timsk, ⟨clearWritten d s.tifr, ?tifr, fun k hk => getLsbD_clearWritten d s.tifr hk⟩,
    ⟨field d 5 3, ?adts, ?sfior⟩, exec_wrAssr d s, decode_writeWords [.timsk, .tifr, .sfior, .assr] d⟩
  case timsk => exact exec_writeInstr_eq (r := .timsk) (by decide) rfl
  case tifr => exact exec_writeInstr_eq (r := .tifr) (by decide) rfl
  case adts =>
    rw [toNat_field]
    omega
  case sfior => exact exec_writeInstr_eq (r := .sfior) (by decide) (s.writeSfior_eq d)

end Sys2Proof.Machine
end

section
/-! PROOFS. The pin actions and the ticks of the timers (spec 41_counter_unit.md R233 to R237): O25 and O29. -/

namespace Sys2Proof.Machine

/-! ### The pin actions -/

/-- Settles O25: each action is one record update, and its word is read at both levels. -/
theorem pinActions : Obligations.PinActions := fun level _ =>
  ⟨rfl, rfl, rfl, by cases level <;> rfl, by cases level <;> rfl, by cases level <;> rfl⟩

/-! ### Edges of a sampled pin (R234) -/

theorem fallEdge_iff (smp pin : Bool) : fallEdge smp pin = true ↔ smp = true ∧ pin = false := by
  decide +revert

theorem riseEdge_iff (smp pin : Bool) : riseEdge smp pin = true ↔ smp = false ∧ pin = true := by
  decide +revert

/-! ### Clock selects (R108, R109) -/

/-- The divisor of a clock select, if it names one: what `divisor8` says of the codes, said of their meaning. -/
def ClockSel.divisor : ClockSel → Option Nat
  | .divided n => some n
  | .stopped | .falling | .rising => none

theorem divisor8_t0 (cs : BitVec 3) : divisor8 .t0 cs.toNat = (clockSel01 cs).divisor := by
  decide +revert

theorem divisor8_t2 (cs : BitVec 3) : divisor8 .t2 cs.toNat = (clockSel2 cs).divisor := by
  decide +revert

/-! ### Ticks (R233) -/

/-- A divided clock ticks when the prescaler, after its 10-bit increment, is a multiple of the divisor. -/
theorem ticks_iff_of_divisor {sel : ClockSel} {N : Nat} (h : sel.divisor = some N) (p : BitVec 10) (fall rise : Bool) :
    ticks sel (p + 1#10) fall rise = true ↔ (p.toNat + 1) % 1024 % N = 0 := by
  cases sel with
  | divided n =>
    obtain rfl : n = N := Option.some.inj h
    simp [ticks, BitVec.toNat_add]
  | stopped | falling | rising => cases h

theorem ticks8_of_stopped {s : State} {n : Timer8Id} (h : (s.timer8 n).cs = 0#3) : s.ticks8 n = false := by
  cases n with
  | t0 => exact congrArg (fun cs => ticks (clockSel01 cs) _ _ _) h
  | t2 => exact congrArg (fun cs => ticks (clockSel2 cs) _ _ _) h

theorem tick1_of_stopped {s : State} (h : s.t1.cs = 0#3) : tick1 s = false :=
  congrArg (fun cs => ticks (clockSel01 cs) _ _ _) h

theorem ticks8_iff_of_divisor {s : State} {n : Timer8Id} {N : Nat} (h : divisor8 n (s.timer8 n).cs.toNat = some N) :
    s.ticks8 n = true ↔ (s.prescaler8 n + 1) % 1024 % N = 0 := by
  cases n with
  | t0 => exact ticks_iff_of_divisor ((divisor8_t0 _).symm.trans h) s.p01 _ _
  | t2 => exact ticks_iff_of_divisor ((divisor8_t2 _).symm.trans h) s.p2 _ _

/-- Timer1 has the clock selects and the prescaler of Timer0 (R108, R231). -/
theorem tick1_iff_of_divisor {s : State} {N : Nat} (h : divisor8 .t0 s.t1.cs.toNat = some N) :
    tick1 s = true ↔ (s.p01.toNat + 1) % 1024 % N = 0 :=
  ticks_iff_of_divisor ((divisor8_t0 _).symm.trans h) s.p01 _ _

/-- A tick on the codes of Timer0 and Timer1 that count a pin's edges. -/
theorem ticks_iff_of_falling {cs : BitVec 3} (h : cs = 6#3) (p : BitVec 10) (smp pin : Bool) :
    ticks (clockSel01 cs) p (fallEdge smp pin) (riseEdge smp pin) = true ↔ smp = true ∧ pin = false := by
  subst h
  exact fallEdge_iff smp pin

theorem ticks_iff_of_rising {cs : BitVec 3} (h : cs = 7#3) (p : BitVec 10) (smp pin : Bool) :
    ticks (clockSel01 cs) p (fallEdge smp pin) (riseEdge smp pin) = true ↔ smp = false ∧ pin = true := by
  subst h
  exact riseEdge_iff smp pin

/-- Settles O29: the tick of each kind of clock select, for each timer. -/
theorem tickGeneration : Obligations.TickGeneration := fun _ =>
  ⟨fun _ => ticks8_of_stopped, tick1_of_stopped, fun _ _ => ticks8_iff_of_divisor, fun _ => tick1_iff_of_divisor,
    fun h => ticks_iff_of_falling h _ _ _, fun h => ticks_iff_of_rising h _ _ _,
    fun h => ticks_iff_of_falling h _ _ _, fun h => ticks_iff_of_rising h _ _ _⟩

end Sys2Proof.Machine
end

section
/-! PROOFS. The refusals of CLK (spec 41_counter_unit.md R249, 60_exceptions.md R406 to R409): O27. -/

namespace Sys2Proof.Machine

/-! ### The modes that refuse -/

theorem class8_fast_or_pc_iff (wgm : BitVec 2) :
    (class8 wgm == .fast || class8 wgm == .pc) = true ↔ wgm = 1#2 ∨ wgm = 3#2 := by
  decide +revert

theorem class8_dualSlope_iff (wgm : BitVec 2) : (class8 wgm).dualSlope = true ↔ wgm = 1#2 := by
  decide +revert

theorem class1_dualSlope_iff (wgm : BitVec 4) :
    (class1 wgm).dualSlope = true ↔ wgm ∈ [1#4, 2#4, 3#4, 8#4, 9#4, 10#4, 11#4] := by
  decide +revert

theorem variableTopPwm_iff (wgm : BitVec 4) :
    variableTopPwm wgm = true ↔ wgm ∈ [8#4, 9#4, 10#4, 11#4, 14#4, 15#4] := by
  decide +revert

/-! ### The refusals of one timer -/

/-- An 8-bit count is never above TOP in phase-correct PWM, where TOP is 0xFF. -/
theorem Timer8.not_above_top {t : Timer8} (h : (class8 t.wgm).dualSlope = true) : ¬t.top.toNat < t.tcnt.toNat := by
  have htop : t.top = 0xFF#8 := by rw [Timer8.top, (class8_dualSlope_iff _).mp h]; rfl
  rw [htop]
  exact Nat.not_lt.mpr (Nat.le_of_lt_succ t.tcnt.isLt)

/-- COM_RESERVED is the one code of an 8-bit timer. -/
theorem Timer8.refusals_eq (n : Timer8Id) (t : Timer8) :
    t.refusals n = if (t.wgm = 1#2 ∨ t.wgm = 3#2) ∧ t.com = 1#2 then [.comReserved n] else [] := by
  have habove : ((class8 t.wgm).dualSlope && decide (t.top.toNat < t.tcnt.toNat)) = false := by
    simpa using fun h => Nat.not_lt.mp (Timer8.not_above_top h)
  simp [Timer8.refusals, habove, ← class8_fast_or_pc_iff]

theorem Timer8.mem_refusals {c : TickRefusal} {n : Timer8Id} {t : Timer8} :
    c ∈ t.refusals n ↔ c = .comReserved n ∧ (t.wgm = 1#2 ∨ t.wgm = 3#2) ∧ t.com = 1#2 := by
  rw [Timer8.refusals_eq, List.mem_ite_nil_right, List.mem_singleton, and_comm]

theorem Timer1.mem_refusals {c : TickRefusal} {t : Timer1} :
    c ∈ t.refusals ↔
      (c = .wgmReserved ∧ t.wgm = 13#4) ∨
      (c = .pwmAboveTop .t1 t.tcnt t.top ∧ t.wgm ∈ [1#4, 2#4, 3#4, 8#4, 9#4, 10#4, 11#4] ∧
        t.top.toNat < t.tcnt.toNat) ∨
      (c = .topTooSmall t.top ∧ t.wgm ∈ [8#4, 9#4, 10#4, 11#4, 14#4, 15#4] ∧ t.top.toNat < 3) := by
  simp only [Timer1.refusals, List.mem_append, List.mem_ite_nil_right, List.mem_singleton, beq_iff_eq,
    Bool.and_eq_true, decide_eq_true_eq, class1_dualSlope_iff, variableTopPwm_iff, or_assoc, and_comm]

/-! ### The refusals of one CLK -/

theorem exists_timer8Id {p : Timer8Id → Prop} : (∃ n, p n) ↔ p .t0 ∨ p .t2 := by
  constructor
  · rintro ⟨_ | _, h⟩
    · exact .inl h
    · exact .inr h
  · rintro (h | h)
    · exact ⟨.t0, h⟩
    · exact ⟨.t2, h⟩

theorem mem_clockRefusals {c : TickRefusal} {s : State} :
    c ∈ clockRefusals s ↔
      (∃ n, s.ticks8 n = true ∧ c ∈ (s.timer8 n).refusals n) ∨ (tick1 s = true ∧ c ∈ s.t1.refusals) := by
  rw [exists_timer8Id, or_right_comm]
  simp only [clockRefusals, List.mem_append, List.mem_ite_nil_right]
  rfl

/-- A CLK that refuses anything is refused with all of it (R402). -/
theorem exec_clk_refused {s : State} (h : clockRefusals s ≠ []) :
    exec .clk s = .refused (.clockRefused (clockRefusals s)) := by
  show execClk s = _
  unfold execClk
  cases hc : clockRefusals s with
  | nil => exact absurd hc h
  | cons c cs => rfl

/-- Settles O27: the list is `clockRefusals s`, and each code is looked up in the lists of the timers. -/
theorem clkRefusalCodes : Obligations.ClkRefusalCodes := by
  intro s
  refine ⟨clockRefusals s, fun h => ⟨clocked s, exec_clk_next.mpr ⟨h, rfl⟩⟩, exec_clk_refused, ?wgmReserved,
    ?comReserved, ?pwmAboveTop, ?topTooSmall⟩
  all_goals simp only [mem_clockRefusals, Timer8.mem_refusals, Timer1.mem_refusals]
  case wgmReserved => simp
  case comReserved => simp
  case pwmAboveTop =>
    intro n c top
    simp only [reduceCtorEq, false_and, and_false, exists_false, false_or, or_false, TickRefusal.pwmAboveTop.injEq]
    constructor
    · rintro ⟨htick, ⟨rfl, rfl, rfl⟩, hmode, habove⟩
      exact ⟨rfl, htick, hmode, rfl, rfl, habove⟩
    · rintro ⟨rfl, htick, hmode, rfl, rfl, habove⟩
      exact ⟨htick, ⟨rfl, rfl, rfl⟩, hmode, habove⟩
  case topTooSmall =>
    intro top
    simp only [reduceCtorEq, false_and, and_false, exists_false, false_or, TickRefusal.topTooSmall.injEq]
    constructor
    · rintro ⟨htick, rfl, hmode, hsmall⟩
      exact ⟨htick, hmode, rfl, hsmall⟩
    · rintro ⟨htick, hmode, rfl, hsmall⟩
      exact ⟨htick, rfl, hmode, hsmall⟩

end Sys2Proof.Machine
end

section
/-! PROOFS. The ICP1 front end and the capture in CLK (spec 41_counter_unit.md R270 to R272): O37. -/

namespace Sys2Proof.Machine

/-! ### Flags set in a CLK (R246 to R248, R272) -/

theorem getLsbD_flagIf (src src' : Source) (set : Bool) :
    (flagIf src set).getLsbD (sourceBit src') = (set && decide (src = src')) := by
  cases set <;> cases src <;> cases src' <;> rfl

theorem getLsbD_flags0 (ovf matched : Bool) (src : Source) :
    (flags0 ovf matched).getLsbD (sourceBit src) =
      (ovf && decide (.t0Ovf = src) || matched && decide (.t0Comp = src)) := by
  rw [flags0, BitVec.getLsbD_or, getLsbD_flagIf, getLsbD_flagIf]

theorem getLsbD_flags2 (ovf matched : Bool) (src : Source) :
    (flags2 ovf matched).getLsbD (sourceBit src) =
      (ovf && decide (.t2Ovf = src) || matched && decide (.t2Comp = src)) := by
  rw [flags2, BitVec.getLsbD_or, getLsbD_flagIf, getLsbD_flagIf]

theorem getLsbD_flags1 (ovf matchedA matchedB icf : Bool) (src : Source) :
    (flags1 ovf matchedA matchedB icf).getLsbD (sourceBit src) =
      (ovf && decide (.t1Ovf = src) || matchedA && decide (.t1CompA = src) ||
        matchedB && decide (.t1CompB = src) || icf && decide (.t1Capt = src)) := by
  simp only [flags1, BitVec.getLsbD_or, getLsbD_flagIf]

/-! ### The front end (R270, R271) -/

/-- This CLK captures: the filtered level makes the transition that ICES1 selects, and ICR1 is not TOP. -/
def State.captures (s : State) : Bool :=
  captureEdge s.t1.ices s.icpFilt (clocked s).icpFilt && !icrIsTop s.t1.wgm

theorem captureEdge_iff (ices old new : Bool) : captureEdge ices old new = true ↔ old ≠ new ∧ ices = new := by
  decide +revert

theorem captures_iff {s : State} :
    s.captures = true ↔
      s.icpFilt ≠ (clocked s).icpFilt ∧ s.t1.ices = (clocked s).icpFilt ∧ s.t1.wgm ∉ [8#4, 10#4, 12#4, 14#4] := by
  rw [State.captures, Bool.and_eq_true, captureEdge_iff, Bool.not_eq_true', ← Bool.not_eq_true, icrIsTop_iff, and_assoc]

theorem captures_eq_false_iff {s : State} :
    s.captures = false ↔
      s.icpFilt = (clocked s).icpFilt ∨ s.t1.ices ≠ (clocked s).icpFilt ∨ s.t1.wgm ∈ [8#4, 10#4, 12#4, 14#4] := by
  rw [← Bool.not_eq_true, captures_iff]
  tauto

/-- With the noise canceller the oldest of the four samples drops out of the history. -/
theorem filteredLevel_push (pin filt : Bool) (h : IcpHist) :
    filteredLevel true pin filt (h.push pin) = if h.s1 = pin ∧ h.s2 = pin ∧ h.s3 = pin then pin else filt := by
  cases pin <;> simp [filteredLevel, IcpHist.push, IcpHist.all, and_assoc]

theorem clocked_icpFilt_of_icnc_false {s : State} (h : s.t1.icnc = false) : (clocked s).icpFilt = s.icpPin := by
  show filteredLevel s.t1.icnc _ _ _ = _
  rw [h]
  rfl

theorem clocked_icpFilt_of_icnc_true {s : State} (h : s.t1.icnc = true) :
    (clocked s).icpFilt =
      if s.icpHist.s1 = s.icpPin ∧ s.icpHist.s2 = s.icpPin ∧ s.icpHist.s3 = s.icpPin then s.icpPin
      else s.icpFilt := by
  show filteredLevel s.t1.icnc _ _ _ = _
  rw [h]
  exact filteredLevel_push _ _ _

/-! ### What a capture changes (R272) -/

theorem captureFrontEnd_icr (s : State) :
    (captureFrontEnd s).t1.icr = if s.captures then s.t1.tcnt else s.t1.icr :=
  apply_ite Timer1.icr _ _ _

/-- A timer step leaves ICR1 alone. -/
theorem clocked_icr (s : State) : (clocked s).t1.icr = if s.captures then s.t1.tcnt else s.t1.icr := by
  rw [clocked_t1, ← captureFrontEnd_icr]
  split <;> rfl

/-- A flag after CLK: as it was, or set by the capture or by the step of a timer that ticks. -/
theorem clocked_flag (s : State) (src : Source) :
    (clocked s).flag src =
      (s.flag src || s.captures && decide (.t1Capt = src) || tick0 s && s.t0.stepFlags0.getLsbD (sourceBit src) ||
        tick1 s && (captureFrontEnd s).t1.stepFlags.getLsbD (sourceBit src) ||
        tick2 s && s.t2.stepFlags2.getLsbD (sourceBit src)) := by
  have htifr : (clocked s).tifr = s.tifr ||| flagIf .t1Capt s.captures |||
      (if tick0 s then s.t0.stepFlags0 else 0#8) ||| (if tick1 s then (captureFrontEnd s).t1.stepFlags else 0#8) |||
      (if tick2 s then s.t2.stepFlags2 else 0#8) := rfl
  have hif (k : Bool) (x : Byte) :
      (if k then x else 0#8).getLsbD (sourceBit src) = (k && x.getLsbD (sourceBit src)) := by
    cases k <;> simp
  simp only [State.flag, htifr, BitVec.getLsbD_or, getLsbD_flagIf, hif]

/-- ICF1 is set by a capture, and by a tick of Timer1 at TOP where ICR1 is TOP (R248). -/
theorem clocked_flag_t1Capt (s : State) :
    (clocked s).flag .t1Capt = (s.flag .t1Capt || s.captures ||
      tick1 s && ((captureFrontEnd s).t1.countStep.atTop && icrIsTop s.t1.wgm)) := by
  have hwgm : (captureFrontEnd s).t1.wgm = s.t1.wgm := by rw [captureFrontEnd_t1]
  simp [clocked_flag, Timer8.stepFlags0, Timer1.stepFlags, Timer8.stepFlags2, getLsbD_flags0, getLsbD_flags1,
    getLsbD_flags2, hwgm]

/-- Settles O37: the filtered level after CLK is the level the premises describe, and the rest is the capture. -/
theorem inputCapture : Obligations.InputCapture := by
  intro s t hclk new hpin hfilter
  obtain ⟨-, rfl⟩ := exec_clk_next.mp hclk
  obtain rfl : (clocked s).icpFilt = new := by
    cases hicnc : s.t1.icnc with
    | false => rw [hpin hicnc, clocked_icpFilt_of_icnc_false hicnc]
    | true => rw [hfilter hicnc, clocked_icpFilt_of_icnc_true hicnc]
  refine ⟨rfl, rfl, ?captured, ?notCaptured, ?noCapture⟩
  case captured =>
    intro hcap
    simp [clocked_icr, clocked_flag_t1Capt, captures_iff.mpr hcap]
  case notCaptured =>
    intro hnot
    have hcap : s.captures = false := captures_eq_false_iff.mpr hnot
    refine ⟨by simp [clocked_icr, hcap], fun hmode => ?_⟩
    rw [← icrIsTop_iff, Bool.not_eq_true] at hmode
    simp [clocked_flag_t1Capt, hcap, hmode]
  case noCapture =>
    intro hmode htick
    have hcap : s.captures = false := captures_eq_false_iff.mpr (.inr (.inr hmode))
    simp [clocked_flag_t1Capt, hcap, htick]

end Sys2Proof.Machine
end

section
/-! PROOFS. The shadow and GIE after every action (spec 44_interrupt_dispatch.md R339): O43. An action in progress sets
the shadow exactly where it is a SEI or a RETI, and an action issued is the first action of its expansion. -/

namespace Sys2Proof.Machine

/-! ### CPU actions, the shadow and GIE (R62, R339) -/

/-- A SEI or a RETI among the actions in progress: the last action of GET_TIMER on Timer1 is a SEI (R307). -/
def Micro.isSeiOrReti : Micro → Bool
  | .sei | .reti | .getTimer1Ret _ => true
  | _ => false

theorem Micro.isSeiOrReti_iff {m : Micro} :
    m.isSeiOrReti = true ↔ m = .sei ∨ m = .reti ∨ ∃ v, m = .getTimer1Ret v := by
  cases m <;> simp [Micro.isSeiOrReti]

@[simp] theorem busRead_gie (s : State) (r : Reg) : (s.busRead r).gie = s.gie := by
  rw [busRead_eq]

@[simp] theorem writeEffect_gie (s : State) (d : Byte) (r : Reg) : (s.writeEffect d r).gie = s.gie := by
  cases r <;> rfl

theorem doSlotStore_null (s : State) (src : Source) : s.doSlotStore src 0#16 = { s with shadow := false } := rfl

theorem doSlotStore_of_ne_null {cb : Half} (h : cb ≠ 0#16) (s : State) (src : Source) :
    s.doSlotStore src cb = { s with slots := setSlot s.slots src (some cb), shadow := false } := by
  rw [State.doSlotStore, if_neg h]
  rfl

@[simp] theorem doSlotStore_shadow (s : State) (src : Source) (cb : Half) : (s.doSlotStore src cb).shadow = false := rfl

@[simp] theorem doSlotStore_gie (s : State) (src : Source) (cb : Half) : (s.doSlotStore src cb).gie = s.gie := by
  unfold State.doSlotStore
  split <;> rfl

theorem microStep_of_isSeiOrReti {m : Micro} {s t : State} (hm : m.isSeiOrReti = true)
    (h : microStep m s = .next t) : t.shadow = true ∧ t.gie = true := by
  obtain rfl | rfl | ⟨v, rfl⟩ := Micro.isSeiOrReti_iff.mp hm
  · obtain rfl := Host.Outcome.next.inj h
    exact ⟨rfl, rfl⟩
  · obtain ⟨src, rest, -, rfl⟩ := doReti_next.mp h
    exact ⟨rfl, rfl⟩
  · obtain rfl := Host.Outcome.next.inj h
    exact ⟨rfl, rfl⟩

/-- Every other action clears the shadow; GIE it leaves alone or clears (CLI). -/
theorem microStep_of_not_isSeiOrReti {m : Micro} {s t : State} (hm : m.isSeiOrReti = false)
    (h : microStep m s = .next t) : t.shadow = false ∧ (t.gie = true → s.gie = true) := by
  cases m with
  | sei | reti | getTimer1Ret v => cases hm
  | refuse r => cases h
  | wr r d =>
    obtain ⟨-, rfl⟩ := busWrite_next.mp h
    simp
  | invoke src =>
    obtain ⟨cb, -, rfl⟩ := doInvoke_next.mp h
    simp
  | getTimer1H g lo => cases g <;> obtain rfl := Host.Outcome.next.inj h <;> simp
  | rd | cli | slotStore | rmw | initCom | initCom1 | initCom1A | setTimer1 | getTimer8 | getTimer1 | getTimer1L
  | poll =>
    obtain rfl := Host.Outcome.next.inj h
    simp

theorem microStep_shadow {m : Micro} {s t : State} (h : microStep m s = .next t) : t.shadow = m.isSeiOrReti := by
  cases hm : m.isSeiOrReti with
  | true => exact (microStep_of_isSeiOrReti hm h).1
  | false => exact (microStep_of_not_isSeiOrReti hm h).1

/-! ### Actions issued, as the first action of their expansion (R13) -/

/-- A bus, core or slot action is an operation of one CPU action, so the driver's rule covers it too. -/
theorem exec_eq_startOperation {i : Instr} (h : i.isBodyAction = true) (s : State) :
    exec i s = startOperation i.wellFormed (expand i) s := by
  cases i with
  | clk | pinT0 | pinT1 | pinIcp1 | accept | reti => cases h
  | delayMs t period => cases t <;> rfl
  | _ => rfl

theorem startOperation_next {legal : Bool} {ms : List Micro} {s t : State} :
    startOperation legal ms s = .next t ↔
      legal = true ∧ ∃ m rest, ms = m :: rest ∧ microStep m (s.push rest) = .next t := by
  cases legal with
  | false => simp [startOperation]
  | true => cases ms <;> simp [startOperation]

/-- No expansion but SEI's own begins with a SEI or a RETI. -/
theorem expand_head_isSeiOrReti (i : Instr) : (expand i).head?.any Micro.isSeiOrReti = decide (i = .sei) := by
  cases i with
  | init t | disable t | setCompare t | setTimer t | getTimer t | delayMs t => cases t <;> rfl
  | pwmInit ch freq =>
    show (pwmInitMicros _ ch freq).head?.any _ = false
    unfold pwmInitMicros
    split
    · rfl
    · cases ch <;> rfl
  | pwmWrite ch duty =>
    show (pwmWriteMicros ch duty).head?.any _ = false
    unfold pwmWriteMicros
    split
    · rfl
    · cases ch <;> rfl
  | _ => rfl

theorem exec_bodyAction_shadow {i : Instr} {s t : State} (hi : i.isBodyAction = true) (h : exec i s = .next t) :
    t.shadow = decide (i = .sei) := by
  rw [exec_eq_startOperation hi] at h
  obtain ⟨-, m, rest, hexpand, hstep⟩ := startOperation_next.mp h
  rw [microStep_shadow hstep, ← expand_head_isSeiOrReti, hexpand]
  rfl

/-- CLK and the pins keep the shadow. -/
theorem exec_environment_shadow {i : Instr} {s t : State} (hi : i.isEnvironment = true) (h : exec i s = .next t) :
    t.shadow = s.shadow := by
  cases i with
  | clk =>
    obtain ⟨-, rfl⟩ := exec_clk_next.mp h
    rfl
  | pinT0 | pinT1 | pinIcp1 =>
    obtain rfl := Host.Outcome.next.inj h
    rfl
  | _ => cases hi

theorem isBodyAction_iff {i : Instr} :
    i.isBodyAction = true ↔ i.isEnvironment = false ∧ i ≠ .reti ∧ i ≠ .accept := by
  simp [Instr.isBodyAction, and_assoc]

theorem exec_shadow {i : Instr} {s t : State} (h : exec i s = .next t) :
    t.shadow = if i = .sei ∨ i = .reti then true
      else if i = .accept ∨ i.isEnvironment = true then s.shadow else false := by
  by_cases hreti : i = .reti
  · subst hreti
    obtain ⟨src, rest, -, rfl⟩ := doReti_next.mp h
    rfl
  by_cases haccept : i = .accept
  · subst haccept
    obtain ⟨-, src, -, rfl⟩ := doAccept_next.mp h
    rfl
  cases henv : i.isEnvironment with
  | true =>
    have hsei : i ≠ .sei := by
      rintro rfl
      cases henv
    simp [exec_environment_shadow henv h, hsei, hreti]
  | false =>
    have hbody : i.isBodyAction = true := isBodyAction_iff.mpr ⟨henv, hreti, haccept⟩
    simp [exec_bodyAction_shadow hbody h, hreti, haccept]

/-- Settles O43: by `exec_shadow` for the actions issued, and by whether the action is a SEI or a RETI for those in
progress. -/
theorem shadowRule : Obligations.ShadowRule := by
  refine ⟨fun i s t h => exec_shadow h, fun m s t h => ?_⟩
  rw [← Micro.isSeiOrReti_iff, Bool.not_eq_true]
  exact ⟨fun hm => microStep_of_isSeiOrReti hm h, fun hm => microStep_of_not_isSeiOrReti hm h⟩

end Sys2Proof.Machine
end

section
/-! PROOFS. The arbiter's choice, the core actions and the callback slots (spec 44_interrupt_dispatch.md sections 1, 2
and 4): O44, O45, O47 and O48. -/

namespace Sys2Proof.Machine

/-! ### The arbiter's choice (R331 to R333, R340) -/

theorem mem_priorityOrder (src : Source) : src ∈ priorityOrder := by
  cases src <;> decide

theorem priorityOrder_pairwise : priorityOrder.Pairwise fun a b => (vectorOf a).toNat < (vectorOf b).toNat := by
  decide

theorem pendingSource_iff {s : State} {src : Source} :
    s.pendingSource src = true ↔
      s.tifr.getLsbD (sourceBit src) = true ∧ s.timsk.getLsbD (sourceBit src) = true := by
  rw [State.pendingSource, Bool.and_eq_true]

theorem pendingSource_of_selectSource {s : State} {src : Source} (h : s.selectSource = some src) :
    s.pendingSource src = true :=
  List.find?_some h

/-- The sources before the one selected are not pending, and those behind it have higher vectors. -/
theorem vectorOf_le_of_selectSource {s : State} {src o : Source} (h : s.selectSource = some src)
    (ho : s.pendingSource o = true) : (vectorOf src).toNat ≤ (vectorOf o).toNat := by
  obtain ⟨-, before, behind, horder, hbefore⟩ := List.find?_eq_some_iff_append.mp h
  have hmem : o ∈ before ++ src :: behind := horder ▸ mem_priorityOrder o
  have hsorted := priorityOrder_pairwise
  rw [horder, List.pairwise_append, List.pairwise_cons] at hsorted
  obtain ⟨-, ⟨hbehind, -⟩, -⟩ := hsorted
  rcases List.mem_append.mp hmem with hin | hin
  · exact absurd ho (by simpa using hbefore o hin)
  · rcases List.mem_cons.mp hin with rfl | hin
    · exact le_rfl
    · exact (hbehind o hin).le

theorem onehot_sourceBit (src : Source) : onehot (sourceBit src) = 1#8 <<< sourceBit src := by
  cases src <;> rfl

/-- Taking an interrupt, as one record update: the handler is R344's. -/
theorem takeInterrupt_eq (s : State) (src : Source) :
    s.takeInterrupt src = { s with
      tifr := s.tifr &&& ~~~(1#8 <<< sourceBit src)
      gie := false
      isr := src :: s.isr
      vector := vectorOf src
      pending := [.cli, .invoke src, .wr .tifr (1#8 <<< sourceBit src), .sei, .reti] ++ s.pending } := by
  rw [← onehot_sourceBit]
  rfl

/-- Settles O45: the source taken is the first pending one in priority order. -/
theorem acceptTakesHighestPriority : Obligations.AcceptTakesHighestPriority := by
  refine ⟨fun s henabled => ?_, rfl, rfl⟩
  obtain ⟨src, hsrc⟩ := acceptEnabled_select henabled
  obtain ⟨hflag, hmask⟩ := pendingSource_iff.mp (pendingSource_of_selectSource hsrc)
  refine ⟨src, hflag, hmask, fun o hoflag homask => ?lowest, ?accept⟩
  case lowest => exact vectorOf_le_of_selectSource hsrc (pendingSource_iff.mpr ⟨hoflag, homask⟩)
  case accept => exact doAccept_next.mpr ⟨henabled, src, hsrc, (takeInterrupt_eq s src).symm⟩

/-! ### SEI, CLI and RETI (R334, R335, R337) -/

/-- Settles O44: `State.doSei` and `State.doCli` are these record updates. -/
theorem seiAndCli : Obligations.SeiAndCli := fun _ => ⟨rfl, rfl, rfl, rfl⟩

theorem doReti_of_isr_nil {s : State} (h : s.isr = []) : s.doReti = .refused .retiUnmatched := by
  rw [State.doReti, h]

/-- Settles O47: by whether an accepted interrupt is outstanding. -/
theorem retiReturns : Obligations.RetiReturns := fun _ =>
  ⟨doReti_of_isr_nil, fun src rest h => doReti_next.mpr ⟨src, rest, h, rfl⟩, rfl⟩

/-! ### No expansion holds a RETI (R338) -/

theorem reti_notMem_initMicros8 (n : Timer8Id) (count : Byte) (mode clksel comact : BitVec 4) :
    Micro.reti ∉ initMicros8 n count mode clksel comact := by
  simp [initMicros8]

theorem reti_notMem_initMicros1 (u : CmpUnit) (count : Half) (mode clksel comact : BitVec 4) :
    Micro.reti ∉ initMicros1 u count mode clksel comact := by
  simp [initMicros1]

theorem reti_notMem_initMicros (t : TimerId) (u : CmpUnit) (count : Half) (mode clksel comact : BitVec 4) :
    Micro.reti ∉ initMicros t u count mode clksel comact := by
  cases t with
  | t0 => exact reti_notMem_initMicros8 .t0 _ _ _ _
  | t1 => exact reti_notMem_initMicros1 _ _ _ _ _
  | t2 => exact reti_notMem_initMicros8 .t2 _ _ _ _

theorem reti_notMem_setCompareMicros (t : TimerId) (u : CmpUnit) (value : Half) :
    Micro.reti ∉ setCompareMicros t u value := by
  cases t <;> simp [setCompareMicros]

theorem reti_notMem_disableMicros8 (n : Timer8Id) : Micro.reti ∉ disableMicros8 n := by
  simp [disableMicros8]

theorem reti_notMem_delayMicros (fCpu : Nat) (n : Timer8Id) (period : BitVec 32) :
    Micro.reti ∉ delayMicros fCpu n period := by
  have hpoll (left : Nat) : Micro.reti ∉ pollMicros n left := by
    cases left <;> simp [pollMicros]
  simp [delayMicros, reti_notMem_initMicros8, hpoll, reti_notMem_disableMicros8]

theorem reti_notMem_enableMicros (src : Source) (cb : Half) : Micro.reti ∉ enableMicros src cb := by
  simp [enableMicros]

theorem reti_notMem_disableIntMicros (src : Source) : Micro.reti ∉ disableIntMicros src := by
  simp [disableIntMicros]

theorem reti_notMem_pwmInitMicros (fCpu : Nat) (ch : Channel) (freq : BitVec 32) :
    Micro.reti ∉ pwmInitMicros fCpu ch freq := by
  unfold pwmInitMicros
  split
  · simp
  · exact reti_notMem_initMicros _ _ _ _ _ _

theorem reti_notMem_pwmWriteMicros (ch : Channel) (duty : Byte) : Micro.reti ∉ pwmWriteMicros ch duty := by
  unfold pwmWriteMicros
  split
  · simp
  · exact reti_notMem_setCompareMicros _ _ _

theorem reti_notMem_expand (i : Instr) : Micro.reti ∉ expand i := by
  cases i with
  | init t u => exact reti_notMem_initMicros t u _ _ _ _
  | disable t => cases t <;> simp [expand, disableMicros, reti_notMem_disableMicros8]
  | setCompare t u => exact reti_notMem_setCompareMicros t u _
  | setTimer t => cases t <;> simp [expand, setTimerMicros]
  | getTimer t => cases t <;> simp [expand, getTimerMicros]
  | delayMs t =>
    cases t with
    | t0 => exact reti_notMem_delayMicros _ .t0 _
    | t1 => exact List.not_mem_nil
    | t2 => exact reti_notMem_delayMicros _ .t2 _
  | enableOvfInt | enableCmpInt | enableCaptInt => exact reti_notMem_enableMicros _ _
  | disableOvfInt | disableCmpInt | disableCaptInt => exact reti_notMem_disableIntMicros _
  | dispatch src => simp [expand, dispatchMicros]
  | pwmInit ch => exact reti_notMem_pwmInitMicros _ ch _
  | pwmWrite ch => exact reti_notMem_pwmWriteMicros ch _
  | _ => simp [expand]

theorem reti_notMem_bodyMicros (cb : Half) : Micro.reti ∉ bodyMicros cb := by
  rw [bodyMicros, List.mem_flatMap]
  rintro ⟨i, -, hi⟩
  exact reti_notMem_expand i hi

/-! ### Callback slots (R336, R338, R405) -/

theorem doInvoke_of_empty {s : State} {src : Source} (h : slotOf s.slots src = none) :
    s.doInvoke src = .fault (.callbackEmpty src) := by
  rw [State.doInvoke, h]

/-- Settles O48: the null id is the one case of SLOT_STORE, the empty slot that of INVOKE. -/
theorem callbackSlots : Obligations.CallbackSlots := by
  intro src s
  refine ⟨?null, fun cb hcb => ⟨setSlot s.slots src (some cb), ?store, slotOf_setSlot_same _ _ _,
    fun o ho => slotOf_setSlot_other _ _ ho⟩, doInvoke_of_empty, fun cb hcb => ?invoke, reti_notMem_bodyMicros⟩
  case null => exact congrArg Host.Outcome.next (doSlotStore_null s src)
  case store => exact congrArg Host.Outcome.next (doSlotStore_of_ne_null hcb s src)
  case invoke => exact doInvoke_next.mpr ⟨cb, hcb, rfl⟩

end Sys2Proof.Machine
end

section
/-! PROOFS. The PWM calls (spec 45_pwm.md R370 to R373): the divisor that PWM_INIT chooses and its clock code, the first
step of INIT and SET_COMPARE, and O56. -/

namespace Sys2Proof.Machine

/-! ### The divisor chosen (R371) -/

/-- The test of R371, `ideal / d ≠ 0`, says that `ideal` reaches `d`. -/
theorem firstDivisor_cons {ideal d : Nat} (hd : 0 < d) (ds : List Nat) :
    firstDivisor ideal (d :: ds) = if d ≤ ideal then d else firstDivisor ideal ds := by
  simp only [firstDivisor, ← Nat.pos_iff_ne_zero, Nat.div_pos_iff, hd, true_and]

theorem firstDivisor_eq_fallback {ideal : Nat} {ds : List Nat} (h : ∀ d ∈ ds, ideal < d) :
    firstDivisor ideal ds = Config.pwmPrescalerFallback := by
  induction ds with
  | nil => rfl
  | cons d ds ih =>
    obtain ⟨hd, hds⟩ := List.forall_mem_cons.mp h
    rw [firstDivisor_cons (by omega), if_neg (by omega), ih hds]

/-- In a list that falls, the first candidate reached is the largest one reached. -/
theorem firstDivisor_isGreatest {ideal : Nat} {ds : List Nat} (hpos : ∀ d ∈ ds, 0 < d) (hfall : ds.Pairwise (· > ·))
    (hreach : ∃ d ∈ ds, d ≤ ideal) : IsGreatest {d | d ∈ ds ∧ d ≤ ideal} (firstDivisor ideal ds) := by
  induction ds with
  | nil => simp at hreach
  | cons d ds ih =>
    obtain ⟨hd, hpos⟩ := List.forall_mem_cons.mp hpos
    obtain ⟨hmax, hfall⟩ := List.pairwise_cons.mp hfall
    rw [firstDivisor_cons hd]
    split
    case isTrue h =>
      refine ⟨⟨List.mem_cons_self, h⟩, fun e he => ?_⟩
      obtain rfl | hmem := List.mem_cons.mp he.1
      · exact le_rfl
      · exact (hmax e hmem).le
    case isFalse h =>
      obtain ⟨⟨hmem, hle⟩, hlargest⟩ := ih hpos hfall (by simpa [h] using hreach)
      refine ⟨⟨List.mem_cons_of_mem d hmem, hle⟩, fun e he => hlargest ⟨?_, he.2⟩⟩
      obtain rfl | hmem := List.mem_cons.mp he.1
      · exact absurd he.2 h
      · exact hmem

theorem pwmDivisor_of_ideal_eq_zero {fCpu freq : Nat} (h : fCpu / (freq * 256) = 0) : pwmDivisor fCpu freq = 1 := by
  rw [pwmDivisor, h]
  exact firstDivisor_eq_fallback (by decide)

theorem pwmDivisor_isGreatest {fCpu freq : Nat} (h : 0 < fCpu / (freq * 256)) :
    IsGreatest {d | d ∈ [1024, 256, 64, 8, 1] ∧ d ≤ fCpu / (freq * 256)} (pwmDivisor fCpu freq) :=
  firstDivisor_isGreatest (by decide) (by decide) ⟨1, by decide, h⟩

theorem pwmDivisor_mem (fCpu freq : Nat) : pwmDivisor fCpu freq ∈ [1024, 256, 64, 8, 1] := by
  obtain h | h := Nat.eq_zero_or_pos (fCpu / (freq * 256))
  · rw [pwmDivisor_of_ideal_eq_zero h]
    decide
  · exact (pwmDivisor_isGreatest h).1.1

/-! ### The clock code of a divisor (R372 step 2) -/

/-- Timer1 has Timer0's codes (R108). -/
theorem divisor8_divisorCode (ch : Channel) {d : Nat} (hd : d ∈ [1024, 256, 64, 8, 1]) :
    divisor8 (if ch = .ch3 then .t2 else .t0) (divisorCode (channelTimer ch) d).toNat = some d := by
  simp only [List.mem_cons, List.not_mem_nil, or_false] at hd
  obtain rfl | rfl | rfl | rfl | rfl := hd <;> cases ch <;> rfl

/-! ### Calls that begin with a bus write -/

/-- Only a write of ASSR can be refused (R404). -/
theorem startOperation_wr_next {r : Reg} (hr : r ≠ .assr) (d : Byte) (ms : List Micro) (s : State) :
    ∃ u, startOperation true (.wr r d :: ms) s = .next u :=
  ⟨_, startOperation_next.mpr ⟨rfl, _, _, rfl, busWrite_next.mpr ⟨fun h => hr h.1, rfl⟩⟩⟩

theorem exec_init_next {t : TimerId} {u : CmpUnit} {count : Half} (hu : unitOk t u = true)
    (hv : valueOk t count = true) (mode clksel comact : BitVec 4) (s : State) :
    ∃ v, exec (.init t u count mode clksel comact) s = .next v := by
  have hlegal : (Instr.init t u count mode clksel comact).wellFormed = true := Bool.and_eq_true_iff.mpr ⟨hu, hv⟩
  rw [exec_eq_startOperation rfl, hlegal]
  cases t <;> exact startOperation_wr_next (by decide) _ _ s

theorem exec_setCompare_next {t : TimerId} {u : CmpUnit} {value : Half} (hu : unitOk t u = true)
    (hv : valueOk t value = true) (s : State) : ∃ v, exec (.setCompare t u value) s = .next v := by
  have hlegal : (Instr.setCompare t u value).wellFormed = true := Bool.and_eq_true_iff.mpr ⟨hu, hv⟩
  rw [exec_eq_startOperation rfl, hlegal]
  cases t with
  | t0 | t2 => exact startOperation_wr_next (by decide) _ _ s
  | t1 => exact startOperation_wr_next (by cases u <;> decide) _ _ s

/-! ### The PWM calls -/

theorem unitOk_channel (ch : Channel) : unitOk (channelTimer ch) (channelUnit ch) = true := by
  cases ch <;> rfl

theorem valueOk_of_le {v : Half} (h : v.toNat ≤ 0xFF) (t : TimerId) : valueOk t v = true := by
  simp [valueOk, h]

theorem exec_pwmInit_zero (ch : Channel) (s : State) :
    exec (.pwmInit ch 0#32) s = .refused (.pwmFreqZero ch) := rfl

/-- PWM_INIT with a frequency is the INIT of R372 step 3. -/
theorem exec_pwmInit_of_ne_zero (ch : Channel) {freq : BitVec 32} (h : freq ≠ 0#32) (s : State) :
    exec (.pwmInit ch freq) s = exec (.init (channelTimer ch) (channelUnit ch) 0#16
      (if ch = .ch1 ∨ ch = .ch2 then 5#4 else 3#4)
      (divisorCode (channelTimer ch) (pwmDivisor Config.fCpu freq.toNat)) 2#4) s := by
  show startOperation true (pwmInitMicros Config.fCpu ch freq) s = _
  rw [pwmInitMicros, if_neg h]
  cases ch <;> rfl

theorem exec_pwmWrite_of_gt (ch : Channel) {duty : Byte} (h : 100 < duty.toNat) (s : State) :
    exec (.pwmWrite ch duty) s = .refused (.pwmDutyRange ch duty) := by
  show startOperation true (pwmWriteMicros ch duty) s = _
  rw [pwmWriteMicros, if_pos h]
  rfl

theorem toNat_pwmCompare (duty : Byte) : (pwmCompare duty).toNat = 255 * duty.toNat / 100 := by
  rw [pwmCompare, BitVec.toNat_ofNat]
  omega

/-- A duty of at most 100 percent gives a compare value that an 8-bit timer can hold. -/
theorem valueOk_pwmCompare {duty : Byte} (h : duty.toNat ≤ 100) (t : TimerId) : valueOk t (pwmCompare duty) = true :=
  valueOk_of_le (by rw [toNat_pwmCompare]; omega) t

/-- PWM_WRITE with a duty in range is the SET_COMPARE of R373 step 4. -/
theorem exec_pwmWrite_of_le (ch : Channel) {duty : Byte} (h : duty.toNat ≤ 100) (s : State) :
    exec (.pwmWrite ch duty) s = exec (.setCompare (channelTimer ch) (channelUnit ch) (pwmCompare duty)) s := by
  have hlegal : (Instr.setCompare (channelTimer ch) (channelUnit ch) (pwmCompare duty)).wellFormed = true :=
    Bool.and_eq_true_iff.mpr ⟨unitOk_channel ch, valueOk_pwmCompare h _⟩
  rw [exec_eq_startOperation (i := .setCompare ..) rfl, hlegal]
  show startOperation true (pwmWriteMicros ch duty) s = _
  rw [pwmWriteMicros, if_neg (Nat.not_lt.mpr h)]
  rfl

/-- Settles O56: the clock code is that of the divisor chosen, and the compare value is `pwmCompare`. -/
theorem pwmCalls : Obligations.PwmCalls := by
  refine ⟨fun ch freq s => ⟨?freqZero, fun hfreq => ⟨?initNext, _, ?code, exec_pwmInit_of_ne_zero ch hfreq s⟩⟩,
    ?divisor, fun ch duty s => ⟨fun hduty => exec_pwmWrite_of_gt ch hduty s, fun hduty => ⟨?writeNext, pwmCompare duty,
      toNat_pwmCompare duty, exec_pwmWrite_of_le ch hduty s⟩⟩, rfl⟩
  case freqZero =>
    rintro rfl
    exact exec_pwmInit_zero ch s
  case initNext =>
    rw [exec_pwmInit_of_ne_zero ch hfreq]
    exact exec_init_next (unitOk_channel ch) (valueOk_of_le (by decide) _) _ _ _ s
  case code => exact divisor8_divisorCode ch (pwmDivisor_mem _ _)
  case divisor =>
    rintro F freq ideal rfl
    refine ⟨pwmDivisor_of_ideal_eq_zero, fun hideal => ?_⟩
    obtain ⟨⟨hmem, hle⟩, hmax⟩ := pwmDivisor_isGreatest hideal
    exact ⟨hmem, hle, fun d hd hdle => hmax ⟨hd, hdle⟩⟩
  case writeNext =>
    rw [exec_pwmWrite_of_le ch hduty]
    exact exec_setCompare_next (unitOk_channel ch) (valueOk_pwmCompare hduty _) s

end Sys2Proof.Machine
end

section
/-! PROOFS. The round trips between actions and words (spec 30_encoding.md sections 1 to 6): O1, O2 and O4. The fields
that `encodeFields` writes are read back row by row, the payload's fields by their places as numbers. -/

namespace Sys2Proof

open Machine

/-! ### The fields of a payload -/

theorem decodeSource_encodeSource (src : Source) : decodeSource (encodeSource src) = src := by
  cases src <;> rfl

/-- A field of a payload, from its place in the payload as a number. -/
theorem extractLsb'_eq_of_toNat {w n lo : Nat} {p : BitVec w} {x : BitVec n}
    (h : p.toNat / 2 ^ lo % 2 ^ n = x.toNat) : p.extractLsb' lo n = x :=
  BitVec.eq_of_toNat_eq ((toNat_field p lo n).trans h)

/-- The payload of a slot action (R107). -/
theorem slot_payload_fields (src : BitVec 3) (cbid : Half) :
    (0#13 ++ src ++ cbid : BitVec 32).extractLsb' 19 13 = 0#13 ∧
      (0#13 ++ src ++ cbid : BitVec 32).extractLsb' 16 3 = src ∧
      (0#13 ++ src ++ cbid : BitVec 32).extractLsb' 0 16 = cbid := by
  refine ⟨?_, ?_, BitVec.extractLsb'_append_eq_right⟩ <;> refine extractLsb'_eq_of_toNat ?_ <;>
    simp only [toNat_append_eq_add, BitVec.toNat_ofNat] <;> omega

/-- The payload of a row with a 16-bit operand in bits 15:0 (R114). -/
theorem half_payload_fields (v : Half) :
    (0#16 ++ v : BitVec 32).extractLsb' 16 16 = 0#16 ∧ (0#16 ++ v : BitVec 32).extractLsb' 0 16 = v :=
  ⟨BitVec.extractLsb'_append_eq_left, BitVec.extractLsb'_append_eq_right⟩

/-- The payload of INIT (R114). -/
theorem init_payload_fields (count : Half) (mode clksel comact : BitVec 4) :
    (count ++ mode ++ clksel ++ comact ++ 0#4 : BitVec 32).extractLsb' 0 4 = 0#4 ∧
      (count ++ mode ++ clksel ++ comact ++ 0#4 : BitVec 32).extractLsb' 16 16 = count ∧
      (count ++ mode ++ clksel ++ comact ++ 0#4 : BitVec 32).extractLsb' 12 4 = mode ∧
      (count ++ mode ++ clksel ++ comact ++ 0#4 : BitVec 32).extractLsb' 8 4 = clksel ∧
      (count ++ mode ++ clksel ++ comact ++ 0#4 : BitVec 32).extractLsb' 4 4 = comact := by
  refine ⟨BitVec.extractLsb'_append_eq_right, ?_, ?_, ?_, ?_⟩ <;> refine extractLsb'_eq_of_toNat ?_ <;>
    simp only [toNat_append_eq_add, BitVec.toNat_ofNat] <;> omega

/-- The payload of DISPATCH (R114). -/
theorem source_payload_fields (src : BitVec 3) :
    (0#29 ++ src : BitVec 32).extractLsb' 3 29 = 0#29 ∧ (0#29 ++ src : BitVec 32).extractLsb' 0 3 = src :=
  ⟨BitVec.extractLsb'_append_eq_left, BitVec.extractLsb'_append_eq_right⟩

/-- The payload of PWM_WRITE (R114). -/
theorem duty_payload_fields (duty : Byte) :
    (0#24 ++ duty : BitVec 32).extractLsb' 8 24 = 0#24 ∧ (0#24 ++ duty : BitVec 32).extractLsb' 0 8 = duty :=
  ⟨BitVec.extractLsb'_append_eq_left, BitVec.extractLsb'_append_eq_right⟩

/-! ### The fields T, U and CH of a DRIVER row -/

@[simp] theorem timerUnit_timerFields (op : BitVec 4) (t : TimerId) (u : CmpUnit) (p : BitVec 32) :
    (timerFields op t u p).timerUnit = some (t, u) :=
  Fields.timerUnit_eq_some.mpr ⟨rfl, rfl, rfl⟩

@[simp] theorem timerOnly_timerFields (op : BitVec 4) (t : TimerId) (p : BitVec 32) :
    (timerFields op t .a p).timerOnly = some t :=
  Fields.timerOnly_eq_some.mpr ⟨rfl, rfl, rfl⟩

@[simp] theorem channelOnly_channelFields (op : BitVec 4) (ch : Channel) (p : BitVec 32) :
    (channelFields op ch p).channelOnly = some ch :=
  Fields.channelOnly_eq_some.mpr ⟨rfl, rfl, rfl⟩

@[simp] theorem timerFields_op (op : BitVec 4) (t : TimerId) (u : CmpUnit) (p : BitVec 32) :
    (timerFields op t u p).op = op := rfl

@[simp] theorem timerFields_payload (op : BitVec 4) (t : TimerId) (u : CmpUnit) (p : BitVec 32) :
    (timerFields op t u p).payload = p := rfl

@[simp] theorem channelFields_op (op : BitVec 4) (ch : Channel) (p : BitVec 32) : (channelFields op ch p).op = op := rfl

@[simp] theorem channelFields_payload (op : BitVec 4) (ch : Channel) (p : BitVec 32) :
    (channelFields op ch p).payload = p := rfl

/-! ### The rows read back, class by class -/

/-- The level of a PIN action is all its payload holds (R105). -/
theorem decodeEvent_pinFields {op : BitVec 4} {level : Bool} {i : Instr}
    (hi : (op, i) ∈ [(1#4, Instr.pinT0 level), (2#4, .pinT1 level), (3#4, .pinIcp1 level)]) :
    decodeEvent (pinFields op level) = some i := by
  simp only [List.mem_cons, Prod.mk.injEq, List.not_mem_nil, or_false] at hi
  obtain ⟨rfl, rfl⟩ | ⟨rfl, rfl⟩ | ⟨rfl, rfl⟩ := hi <;> cases level <;> rfl

theorem decodeSlot_encodeFields {i : Instr} (hi : ∃ src, (∃ cbid, i = .slotStore src cbid) ∨ i = .invoke src) :
    decodeSlot (encodeFields i) = some i := by
  obtain ⟨src, ⟨cbid, rfl⟩ | rfl⟩ := hi
  · obtain ⟨hzero, hsrc, hlow⟩ := slot_payload_fields (encodeSource src) cbid
    simp [decodeSlot, encodeFields, plainFields, Fields.noTimer, Fields.low, hzero, hsrc, hlow,
      decodeSource_encodeSource]
  · obtain ⟨hzero, hsrc, hlow⟩ := slot_payload_fields (encodeSource src) 0#16
    simp [decodeSlot, encodeFields, plainFields, Fields.noTimer, Fields.low, hzero, hsrc, hlow,
      decodeSource_encodeSource]

/-- The rows of class DRIVER (R114). -/
theorem decodeFields_of_driver {i : Instr} (hi : (encodeFields i).cls = 5#4) :
    decodeFields (encodeFields i) = some i := by
  rw [decodeFields, hi]
  show decodeDriver (encodeFields i) = some i
  cases i with
  | init t u count mode clksel comact =>
    obtain ⟨hzero, hcount, hmode, hclksel, hcomact⟩ := init_payload_fields count mode clksel comact
    simp [decodeDriver, encodeFields, Fields.high, hzero, hcount, hmode, hclksel, hcomact]
  | setCompare t u v | setTimer t v | enableOvfInt t v | enableCmpInt t u v =>
    obtain ⟨hhigh, hlow⟩ := half_payload_fields v
    simp [decodeDriver, encodeFields, Fields.high, Fields.low, hhigh, hlow]
  | enableCaptInt v =>
    obtain ⟨hhigh, hlow⟩ := half_payload_fields v
    have htimer (p : BitVec 32) : (timerFields 8#4 .t1 .a p).timer1Only = true := rfl
    simp [decodeDriver, encodeFields, Fields.high, Fields.low, hhigh, hlow, htimer]
  | disable t | getTimer t | delayMs t period | disableOvfInt t | disableCmpInt t u =>
    simp [decodeDriver, encodeFields]
  | disableCaptInt => rfl
  | dispatch src =>
    obtain ⟨hzero, hsrc⟩ := source_payload_fields (encodeSource src)
    simp [decodeDriver, encodeFields, plainFields, Fields.noTimer, hzero, hsrc, decodeSource_encodeSource]
  | pwmInit ch freq => simp [decodeDriver, encodeFields]
  | pwmWrite ch duty =>
    obtain ⟨hzero, hduty⟩ := duty_payload_fields duty
    simp [decodeDriver, encodeFields, hzero, hduty]
  | _ => cases hi

/-! ### The round trips -/

/-- Every action's fields decode to it, those of actions that no legal word stands for included. -/
theorem decodeFields_encodeFields (i : Instr) : decodeFields (encodeFields i) = some i := by
  cases i with
  | wrTccr0 d | wrTcnt0 d | wrOcr0 d | wrTccr2 d | wrTcnt2 d | wrOcr2 d | wrAssr d | wrTccr1a d | wrTccr1b d
  | wrTcnt1h d | wrTcnt1l d | wrOcr1ah d | wrOcr1al d | wrOcr1bh d | wrOcr1bl d | wrIcr1h d | wrIcr1l d
  | wrTimsk d | wrTifr d | wrSfior d => exact decodeBusWr_busWrFields _ d
  | pinT0 level | pinT1 level | pinIcp1 level => exact decodeEvent_pinFields (by simp)
  | slotStore src cbid => exact decodeSlot_encodeFields ⟨src, .inl ⟨cbid, rfl⟩⟩
  | invoke src => exact decodeSlot_encodeFields ⟨src, .inr rfl⟩
  | init | disable | setCompare | setTimer | getTimer | delayMs | enableOvfInt | enableCmpInt | enableCaptInt
  | disableOvfInt | disableCmpInt | disableCaptInt | dispatch | pwmInit | pwmWrite =>
    exact decodeFields_of_driver rfl
  | _ => rfl

theorem decode_encode {i : Instr} (hwf : i.wellFormed = true) : decode (encode i) = some i :=
  decode_eq_some.mpr ⟨by rw [encode, Fields.ofWord_toWord, decodeFields_encodeFields], hwf⟩

/-- Settles O1: the fields of an action are read back from its word and decode to it. -/
theorem decodeOfEncode : Obligations.DecodeOfEncode := fun _ hwf => decode_encode hwf

/-- Settles O2: the fields of a word that decodes are those written for its action. -/
theorem encodeOfDecode : Obligations.EncodeOfDecode := by
  intro w i h
  obtain ⟨hfields, hwf⟩ := decode_eq_some.mp h
  refine ⟨hwf, ?_⟩
  rw [encode, encodeFields_of_decodeFields hfields, Fields.toWord_ofWord]

/-- Settles O4: each word is the word of its action, which is well formed. -/
theorem sampleWordsDecode : Obligations.SampleWordsDecode :=
  ⟨decode_encode (i := .rdTccr0) rfl, decode_encode (i := .wrTccr0 0x19#8) rfl, decode_encode (i := .clk) rfl,
    decode_encode (i := .pinIcp1 true) rfl, decode_encode (i := .reti) rfl,
    decode_encode (i := .slotStore .t1Capt 9#16) rfl, decode_encode (i := .invoke .t2Comp) rfl,
    decode_encode (i := .init .t1 .b 0x1234#16 14#4 1#4 2#4) rfl,
    decode_encode (i := .setCompare .t1 .b 0x01F4#16) rfl, decode_encode (i := .delayMs .t2 1000#32) rfl,
    decode_encode (i := .dispatch .t1Capt) rfl, decode_encode (i := .pwmWrite .ch3 100#8) rfl⟩

end Sys2Proof
end

section
/-! PROOFS. Steps and scheduling (spec 00_scope.md R6, R7, R13; 60_exceptions.md R402, R403): which action the next step
takes, what a stop leaves, and that an action in progress acts as its action issued: O5, O6, O7, O8, O9, O46 and O59. -/

namespace Sys2Proof.Machine

/-! ### When ACCEPT is enabled (R332) -/

theorem acceptEnabled_iff {s : State} :
    s.acceptEnabled = true ↔
      s.gie = true ∧ s.shadow = false ∧
      (∃ src, s.tifr.getLsbD (sourceBit src) = true ∧ s.timsk.getLsbD (sourceBit src) = true) ∧
      s.faults = [] ∧ s.refusals = [] := by
  simp only [State.acceptEnabled, Bool.and_eq_true, Bool.not_eq_true', selectSource_isSome, pendingSource_iff,
    List.isEmpty_iff, and_assoc]

@[simp] theorem acceptEnabled_withInput (s : State) (rest : List Input) :
    ({ s with input := rest } : State).acceptEnabled = s.acceptEnabled := rfl

@[simp] theorem acceptEnabled_withPending (s : State) (ms : List Micro) :
    ({ s with pending := ms } : State).acceptEnabled = s.acceptEnabled := rfl

/-! ### Whether the action issued next runs in this step (R6, R7) -/

theorem runsNow_environment {i : Instr} (h : i.isEnvironment = true) (s : State) (during : Bool) :
    s.runsNow i during = (during || s.pending.isEmpty) := by
  rw [State.runsNow, if_pos h]

theorem runsNow_accept (s : State) (during : Bool) :
    s.runsNow .accept during = (s.acceptEnabled || s.pending.isEmpty) := rfl

theorem runsNow_cpu {i : Instr} (henv : i.isEnvironment = false) (haccept : i ≠ .accept) (s : State) (during : Bool) :
    s.runsNow i during = (!s.acceptEnabled && s.pending.isEmpty) := by
  rw [State.runsNow, henv, if_neg Bool.false_ne_true, if_neg haccept]

/-- A word for the CPU or the arbiter is taken or waits whichever way it is issued. -/
theorem step_issued {s : State} {w : ActionWord} {rest : List Input} (hf : s.faults = []) (hr : s.refusals = [])
    (hi : s.input = .word w :: rest ∨ s.input = .during w :: rest) :
    ∃ during, step s = takeWord w during rest s := by
  rw [step_running hf hr]
  obtain hi | hi := hi
  · exact ⟨false, nextAction_word hi⟩
  · exact ⟨true, nextAction_during hi⟩

theorem step_nil {s : State} (hf : s.faults = []) (hr : s.refusals = []) (hi : s.input = []) :
    step s = idleTurn s := by
  rw [step_running hf hr, nextAction_nil hi]

theorem step_cpu {s : State} {rest : List Input} (hf : s.faults = []) (hr : s.refusals = [])
    (hi : s.input = .cpu :: rest) : step s = cpuTurn { s with input := rest } := by
  rw [step_running hf hr, nextAction_cpu hi]

theorem step_word {s : State} {w : ActionWord} {rest : List Input} (hf : s.faults = []) (hr : s.refusals = [])
    (hi : s.input = .word w :: rest) : step s = takeWord w false rest s := by
  rw [step_running hf hr, nextAction_word hi]

theorem step_during {s : State} {w : ActionWord} {rest : List Input} (hf : s.faults = []) (hr : s.refusals = [])
    (hi : s.input = .during w :: rest) : step s = takeWord w true rest s := by
  rw [step_running hf hr, nextAction_during hi]

/-- With nothing issued, an operation in progress goes on. -/
theorem step_pending {s : State} {m : Micro} {ms : List Micro} (hf : s.faults = []) (hr : s.refusals = [])
    (ha : s.acceptEnabled = false) (hi : s.input = []) (hp : s.pending = m :: ms) :
    step s = microStep m { s with pending := ms } := by
  rw [step_nil hf hr hi, idleTurn_pending hp, cpuTurn_micro ha hp]

/-- In its turn, the CPU does the next action of the operation in progress. -/
theorem step_cpu_pending {s : State} {m : Micro} {ms : List Micro} {rest : List Input} (hf : s.faults = [])
    (hr : s.refusals = []) (ha : s.acceptEnabled = false) (hi : s.input = .cpu :: rest) (hp : s.pending = m :: ms) :
    step s = microStep m { s with pending := ms, input := rest } := by
  rw [step_cpu hf hr hi]
  exact cpuTurn_micro ha hp

/-! ### The next action -/

/-- Settles O5: in each case the action runs now. -/
theorem stepRunsTheDecodedAction : Obligations.StepRunsTheDecodedAction := by
  intro s w i rest hf hr hd
  refine ⟨fun henv hi => ?during, fun henv hi hp => ?word, fun henv hne hi hp ha => ?cpu, fun hacc hi hrun => ?accept⟩
  case during =>
    rw [step_during hf hr hi]
    exact takeWord_runs hd (by rw [runsNow_environment henv]; rfl)
  case word =>
    rw [step_word hf hr hi]
    exact takeWord_runs hd (by rw [runsNow_environment henv, hp]; rfl)
  case cpu =>
    obtain ⟨during, hstep⟩ := step_issued hf hr hi
    rw [hstep]
    exact takeWord_runs hd (by rw [runsNow_cpu henv hne, ha, hp]; rfl)
  case accept =>
    subst hacc
    obtain ⟨during, hstep⟩ := step_issued hf hr hi
    rw [hstep]
    exact takeWord_runs hd (by rw [runsNow_accept]; simpa using hrun)

theorem takeWord_illegal {w : ActionWord} (hd : decode w = none) (during : Bool) (rest : List Input) (s : State) :
    takeWord w during rest s = .refused (.decodeInvalid w) := by
  rw [takeWord, hd]

/-- Settles O6: the word is refused where it is decoded. -/
theorem illegalWordIsRefused : Obligations.IllegalWordIsRefused := by
  intro s w rest hf hr hi hd
  obtain ⟨during, hstep⟩ := step_issued hf hr hi
  rw [hstep, takeWord_illegal hd]
  exact ⟨rfl, recordStop_code rfl hr⟩

/-- Settles O7: an action that is not ACCEPT and would run on the CPU side waits for it. -/
theorem acceptGoesFirst : Obligations.AcceptGoesFirst := by
  intro s
  refine ⟨acceptEnabled_iff, fun ha => ?_⟩
  obtain ⟨-, -, -, hf, hr⟩ := acceptEnabled_iff.mp ha
  refine ⟨fun hi => ?empty, fun rest hi => ?turn, fun w i rest hi hd henv hne => ?cpuWord,
    fun w i rest hi hd henv hp => ?plainWord⟩
  case empty =>
    rw [step_nil hf hr hi, idleTurn, ha, Bool.not_true, Bool.and_false, if_neg Bool.false_ne_true]
    exact cpuTurn_accept ha
  case turn =>
    rw [step_cpu hf hr hi]
    exact cpuTurn_accept ha
  case cpuWord =>
    obtain ⟨during, hstep⟩ := step_issued hf hr hi
    have hwaits : s.runsNow i during = false := by
      rw [runsNow_cpu henv hne, ha]
      rfl
    rw [hstep, takeWord_waits hd hwaits, cpuTurn_accept ha]
  case plainWord =>
    have hwaits : s.runsNow i false = false := by
      rw [runsNow_environment henv, Bool.false_or]
      simpa using hp
    rw [step_word hf hr hi, takeWord_waits hd hwaits, cpuTurn_accept ha]

/-- With an operation in progress and no ACCEPT enabled, only a clock or pin word that comes during it runs. -/
theorem runsNow_eq_false {s : State} {i : Instr} {during : Bool} (ha : s.acceptEnabled = false) (hp : s.pending ≠ [])
    (hi : during = false ∨ i.isEnvironment = false) : s.runsNow i during = false := by
  have hbusy : s.pending.isEmpty = false := by simpa using hp
  cases henv : i.isEnvironment with
  | true =>
    obtain rfl : during = false := hi.resolve_right (by simp [henv])
    rw [runsNow_environment henv, hbusy]
    rfl
  | false =>
    by_cases haccept : i = .accept
    · subst haccept
      rw [runsNow_accept, ha, hbusy]
      rfl
    · rw [runsNow_cpu henv haccept, hbusy, Bool.and_false]

/-- Settles O8: a word that does not run now lets the CPU side go on, and an idle CPU side does nothing. -/
theorem operationGoesOnInOrder : Obligations.OperationGoesOnInOrder := by
  intro s hf hr ha
  refine ⟨fun m ms hp => ?busy, fun hp => ?idle⟩
  case busy =>
    have hbusy : s.pending ≠ [] := by simp [hp]
    refine ⟨fun hi => step_pending hf hr ha hi hp, fun rest hi => step_cpu_pending hf hr ha hi hp,
      fun w i rest hi hd => ?_, fun w i rest hi hd henv => ?_⟩
    · rw [step_word hf hr hi, takeWord_waits hd (runsNow_eq_false ha hbusy (.inl rfl)), cpuTurn_micro ha hp]
    · rw [step_during hf hr hi, takeWord_waits hd (runsNow_eq_false ha hbusy (.inr henv)), cpuTurn_micro ha hp]
  case idle =>
    refine ⟨fun rest hi => ?_, fun hi => ?_⟩
    · rw [step_cpu hf hr hi]
      exact cpuTurn_idle ha hp
    · rw [step_nil hf hr hi, idleTurn, ha, hp]
      rfl

/-! ### Stops (R402) -/

/-- Only a run that has not stopped raises a code. -/
theorem running_of_refused_code {s : State} {r : Refusal} (h : step s = .refused r) (hr : r.isCode = true) :
    s.faults = [] ∧ s.refusals = [] := by
  unfold step at h
  split at h
  case h_1 hf hr => exact ⟨hf, hr⟩
  case h_2 => cases h
  case h_3 =>
    obtain rfl := Host.Outcome.refused.inj h
    cases hr

theorem running_of_callbackEmpty {s : State} {src : Source} (h : step s = .fault (.callbackEmpty src)) :
    s.faults = [] ∧ s.refusals = [] := by
  unfold step at h
  split at h
  case h_1 hf hr => exact ⟨hf, hr⟩
  case h_2 => cases h
  case h_3 => cases h

/-- Settles O9: the code is recorded in a run that had none, and a run that holds a code has stopped. -/
theorem stoppedRunStaysStopped : Obligations.StoppedRunStaysStopped := by
  refine fun s => ⟨fun r hstep hcode => ?refusal, fun src hstep => ?fault⟩
  case refusal =>
    obtain ⟨hf, hr⟩ := running_of_refused_code hstep hcode
    rw [hstep, recordStop_code hcode hr]
    refine ⟨rfl, ?_, ?_⟩
    · simp [State.acceptEnabled]
    · simp [step, hf]
  case fault =>
    obtain ⟨hf, hr⟩ := running_of_callbackEmpty hstep
    rw [hstep, recordStop_fault hf]
    refine ⟨rfl, ?_, ?_⟩
    · simp [State.acceptEnabled]
    · simp [step]

/-- Settles O46: where ACCEPT is enabled, it answers a next state. -/
theorem acceptNotEnabledIsRefused : Obligations.AcceptNotEnabledIsRefused := by
  intro s
  show s.doAccept = _ ↔ _
  cases ha : s.acceptEnabled with
  | false => simp [State.doAccept, ha]
  | true =>
    obtain ⟨src, hsrc⟩ := acceptEnabled_select ha
    have hnext : s.doAccept = .next (s.takeInterrupt src) := doAccept_next.mpr ⟨ha, src, hsrc, rfl⟩
    simp [hnext]

/-! ### Bodies and expansions (R13, R338) -/

theorem initMicros_ne_nil (t : TimerId) (u : CmpUnit) (count : Half) (mode clksel comact : BitVec 4) :
    initMicros t u count mode clksel comact ≠ [] := by
  cases t <;> simp [initMicros, initMicros8, initMicros1]

theorem setCompareMicros_ne_nil (t : TimerId) (u : CmpUnit) (value : Half) : setCompareMicros t u value ≠ [] := by
  cases t <;> simp [setCompareMicros]

/-- An action that a body may hold has an expansion of at least one CPU action. -/
theorem expand_ne_nil {i : Instr} (hwf : i.wellFormed = true) (hbody : i.isBodyAction = true) : expand i ≠ [] := by
  cases i with
  | clk | pinT0 | pinT1 | pinIcp1 | accept | reti => cases hbody
  | init t u => exact initMicros_ne_nil t u _ _ _ _
  | setCompare t u => exact setCompareMicros_ne_nil t u _
  | disable t => cases t <;> simp [expand, disableMicros, disableMicros8]
  | setTimer t => cases t <;> simp [expand, setTimerMicros]
  | getTimer t => cases t <;> simp [expand, getTimerMicros]
  | delayMs t =>
    cases t with
    | t0 | t2 => simp [expand, delayMicros, initMicros8]
    | t1 => cases hwf
  | pwmInit ch =>
    show pwmInitMicros _ ch _ ≠ []
    unfold pwmInitMicros
    split
    · simp
    · exact initMicros_ne_nil _ _ _ _ _ _
  | pwmWrite ch =>
    show pwmWriteMicros ch _ ≠ []
    unfold pwmWriteMicros
    split
    · simp
    · exact setCompareMicros_ne_nil _ _ _
  | _ => simp [expand, enableMicros, disableIntMicros, dispatchMicros]

/-- A well-formed action that a body may hold does the first action of its expansion and leaves the others to do. -/
theorem exec_eq_microStep {i : Instr} {m : Micro} {ms : List Micro} (hwf : i.wellFormed = true)
    (hbody : i.isBodyAction = true) (he : expand i = m :: ms) (s : State) : exec i s = microStep m (s.push ms) := by
  rw [exec_eq_startOperation hbody, hwf, he, startOperation_cons]

/-- Settles O59: an expansion's first action, on what stands behind the expansion, is the action issued. -/
theorem bodiesAndExpansions : Obligations.BodiesAndExpansions := by
  refine ⟨fun cb => ⟨rfl, ?body⟩, fun i hwf hbody => ?expansion⟩
  case body =>
    rw [Config.callbackBody, List.all_filter, List.all_eq_true]
    intro i _
    cases i.isBodyAction <;> cases i.wellFormed <;> rfl
  case expansion =>
    obtain ⟨m, ms, he⟩ := List.exists_cons_of_ne_nil (expand_ne_nil hwf hbody)
    refine ⟨m, ms, he, exec_eq_microStep hwf hbody he, fun s ps hf hr ha hp => ⟨fun hi => ?_, fun rest hi => ?_⟩⟩
    all_goals
      rw [he, List.cons_append] at hp
      rw [exec_eq_microStep hwf hbody he]
    · exact step_pending hf hr ha hi hp
    · exact step_cpu_pending hf hr ha hi hp

end Sys2Proof.Machine
end

section
/-! PROOFS. What each action may change (spec 10_state.md, 44_interrupt_dispatch.md): O50. An action in progress is a bus
write, or changes nothing of the block's registers but TEMP1; an action issued is ACCEPT, RETI, an action of the clock or
the pins, or the first action of its expansion. -/

namespace Sys2Proof.Machine

/-! ### What a bus write changes (R153 to R211) -/

theorem writeEffect_timsk (s : State) (d : Byte) (r : Reg) :
    (s.writeEffect d r).timsk = if r = .timsk then d else s.timsk := by
  cases r <;> rfl

theorem writeEffect_tifr (s : State) (d : Byte) (r : Reg) :
    (s.writeEffect d r).tifr = if r = .tifr then clearWritten d s.tifr else s.tifr := by
  cases r <;> rfl

theorem writeEffect_as2 (s : State) (d : Byte) (r : Reg) :
    (s.writeEffect d r).as2 = if r = .assr then d.getLsbD 3 else s.as2 := by
  cases r <;> rfl

theorem writeEffect_p01 (s : State) (d : Byte) (r : Reg) :
    (s.writeEffect d r).p01 = if r = .sfior then (if d.getLsbD 0 then 0#10 else s.p01) else s.p01 := by
  cases r <;> rfl

theorem writeEffect_p2 (s : State) (d : Byte) (r : Reg) :
    (s.writeEffect d r).p2 = if r = .sfior then (if d.getLsbD 1 then 0#10 else s.p2) else s.p2 := by
  cases r <;> rfl

theorem writeEffect_t0 (s : State) (d : Byte) (r : Reg) :
    (s.writeEffect d r).t0 = s.t0 ∨ r ∈ [Reg.tccr0, .tcnt0, .ocr0] := by
  cases r with
  | tccr0 | tcnt0 | ocr0 => exact .inr (by decide)
  | _ => exact .inl rfl

theorem writeEffect_t2 (s : State) (d : Byte) (r : Reg) :
    (s.writeEffect d r).t2 = s.t2 ∨ r ∈ [Reg.tccr2, .tcnt2, .ocr2] := by
  cases r with
  | tccr2 | tcnt2 | ocr2 => exact .inr (by decide)
  | _ => exact .inl rfl

/-- A bus write leaves the CPU side alone. -/
theorem writeEffect_cpu (s : State) (d : Byte) (r : Reg) :
    (s.writeEffect d r).slots = s.slots ∧ (s.writeEffect d r).isr = s.isr ∧ (s.writeEffect d r).vector = s.vector ∧
      (s.writeEffect d r).pending = s.pending := by
  cases r <;> exact ⟨rfl, rfl, rfl, rfl⟩

theorem writeEffect_flag (s : State) (d : Byte) (r : Reg) (src : Source) :
    (s.writeEffect d r).flag src = (s.flag src && !(decide (r = .tifr) && d.getLsbD (sourceBit src))) := by
  have hbit : sourceBit src < 8 := by cases src <;> decide
  rw [State.flag, writeEffect_tifr]
  split
  case isTrue hr => simp [getLsbD_clearWritten d s.tifr hbit, hr, State.flag]
  case isFalse hr => simp [hr, State.flag]

/-! ### What an action in progress changes -/

/-- The block's registers are the same but for TEMP1. -/
structure SameRegisters (s t : State) : Prop where
  t0 : t.t0 = s.t0
  t1 : t.t1 = { s.t1 with temp := t.t1.temp }
  t2 : t.t2 = s.t2
  as2 : t.as2 = s.as2
  p01 : t.p01 = s.p01
  p2 : t.p2 = s.p2
  timsk : t.timsk = s.timsk
  tifr : t.tifr = s.tifr
  vector : t.vector = s.vector

theorem busRead_registers (s : State) (r : Reg) : SameRegisters s (s.busRead r) := by
  rw [busRead_eq]
  exact ⟨rfl, rfl, rfl, rfl, rfl, rfl, rfl, rfl, rfl⟩

theorem SameRegisters.push {s t : State} (h : SameRegisters s t) (ms : List Micro) : SameRegisters s (t.push ms) :=
  ⟨h.t0, h.t1, h.t2, h.as2, h.p01, h.p2, h.timsk, h.tifr, h.vector⟩

theorem Micro.wr_or_not (m : Micro) : (∃ r d, m = .wr r d) ∨ ∀ r d, m ≠ .wr r d := by
  cases m with
  | wr r d => exact .inl ⟨r, d, rfl⟩
  | _ => exact .inr fun _ _ h => by cases h

/-- Only a bus write changes the registers. -/
theorem microStep_registers {m : Micro} {s t : State} (hm : ∀ r d, m ≠ .wr r d) (h : microStep m s = .next t) :
    SameRegisters s t := by
  cases m with
  | wr r d => exact absurd rfl (hm r d)
  | refuse r => cases h
  | reti =>
    obtain ⟨src, rest, -, rfl⟩ := doReti_next.mp h
    exact ⟨rfl, rfl, rfl, rfl, rfl, rfl, rfl, rfl, rfl⟩
  | invoke src =>
    obtain ⟨cb, -, rfl⟩ := doInvoke_next.mp h
    exact ⟨rfl, rfl, rfl, rfl, rfl, rfl, rfl, rfl, rfl⟩
  | slotStore src cb =>
    obtain rfl := Host.Outcome.next.inj h
    unfold State.doSlotStore
    split <;> exact ⟨rfl, rfl, rfl, rfl, rfl, rfl, rfl, rfl, rfl⟩
  | rd r =>
    obtain rfl := Host.Outcome.next.inj h
    exact busRead_registers s r
  | rmw | initCom | initCom1 | initCom1A | getTimer1L | poll =>
    obtain rfl := Host.Outcome.next.inj h
    exact (busRead_registers s _).push _
  | getTimer8 n =>
    obtain rfl := Host.Outcome.next.inj h
    obtain ⟨h0, h1, h2, h3, h4, h5, h6, h7, h8⟩ := busRead_registers s (tcntOf n)
    exact ⟨h0, h1, h2, h3, h4, h5, h6, h7, h8⟩
  | getTimer1H g lo =>
    cases g <;> obtain rfl := Host.Outcome.next.inj h <;> exact ⟨rfl, rfl, rfl, rfl, rfl, rfl, rfl, rfl, rfl⟩
  | sei | cli | setTimer1 | getTimer1 | getTimer1Ret =>
    obtain rfl := Host.Outcome.next.inj h
    exact ⟨rfl, rfl, rfl, rfl, rfl, rfl, rfl, rfl, rfl⟩

/-- Slots change by SLOT_STORE only, accepted sources by RETI only. -/
theorem microStep_slots_isr {m : Micro} {s t : State} (h : microStep m s = .next t) :
    (t.slots = s.slots ∨ ∃ src cb, m = .slotStore src cb) ∧ (t.isr = s.isr ∨ m = .reti) := by
  cases m with
  | refuse r => cases h
  | wr r d =>
    obtain ⟨-, rfl⟩ := busWrite_next.mp h
    obtain ⟨hslots, hisr, -, -⟩ := writeEffect_cpu s d r
    exact ⟨.inl hslots, .inl hisr⟩
  | reti =>
    obtain ⟨src, rest, -, rfl⟩ := doReti_next.mp h
    exact ⟨.inl rfl, .inr rfl⟩
  | invoke src =>
    obtain ⟨cb, -, rfl⟩ := doInvoke_next.mp h
    exact ⟨.inl rfl, .inl rfl⟩
  | slotStore src cb =>
    obtain rfl := Host.Outcome.next.inj h
    refine ⟨.inr ⟨src, cb, rfl⟩, .inl ?_⟩
    unfold State.doSlotStore
    split <;> rfl
  | getTimer1H g lo => cases g <;> obtain rfl := Host.Outcome.next.inj h <;> exact ⟨.inl rfl, .inl rfl⟩
  | rd | sei | cli | rmw | initCom | initCom1 | initCom1A | setTimer1 | getTimer8 | getTimer1 | getTimer1L
  | getTimer1Ret | poll =>
    obtain rfl := Host.Outcome.next.inj h
    simp [busRead_eq]

/-- SLOT_STORE of the null id changes no slot (R336). -/
theorem microStep_slots {m : Micro} {s t : State} (h : microStep m s = .next t) (hne : t.slots ≠ s.slots) :
    ∃ src cb, m = .slotStore src cb ∧ cb ≠ 0#16 := by
  obtain ⟨src, cb, rfl⟩ := (microStep_slots_isr h).1.resolve_left hne
  refine ⟨src, cb, rfl, fun hcb => hne ?_⟩
  obtain rfl := Host.Outcome.next.inj h
  rw [hcb, doSlotStore_null]

theorem microStep_timsk {m : Micro} {s t : State} (h : microStep m s = .next t) (hne : t.timsk ≠ s.timsk) :
    ∃ d, m = .wr .timsk d := by
  obtain ⟨r, d, rfl⟩ | hm := m.wr_or_not
  · obtain ⟨-, rfl⟩ := busWrite_next.mp h
    rw [State_postlude_timsk, writeEffect_timsk, ne_eq, ite_eq_right_iff, Classical.not_imp] at hne
    exact ⟨d, by rw [hne.1]⟩
  · exact absurd (microStep_registers hm h).timsk hne

theorem microStep_flag {m : Micro} {s t : State} (h : microStep m s = .next t) (src : Source) :
    (t.flag src = true → s.flag src = true) ∧
      (s.flag src = true → t.flag src = true ∨ ∃ d, m = .wr .tifr d ∧ d.getLsbD (sourceBit src) = true) := by
  obtain ⟨r, d, rfl⟩ | hm := m.wr_or_not
  · obtain ⟨-, rfl⟩ := busWrite_next.mp h
    have hflag : ((s.writeEffect d r).postlude false).flag src = _ := writeEffect_flag s d r src
    rw [hflag]
    by_cases hr : r = .tifr
    · subst hr
      cases hd : d.getLsbD (sourceBit src) <;> simp [hd]
    · simp [hr]
  · have hflag : t.flag src = s.flag src := by rw [State.flag, (microStep_registers hm h).tifr, State.flag]
    rw [hflag]
    exact ⟨id, .inl⟩

theorem microStep_p01 {m : Micro} {s t : State} (h : microStep m s = .next t) (hne : t.p01 ≠ s.p01) :
    ∃ d, m = .wr .sfior d ∧ d.getLsbD 0 = true := by
  obtain ⟨r, d, rfl⟩ | hm := m.wr_or_not
  · obtain ⟨-, rfl⟩ := busWrite_next.mp h
    rw [State_postlude_p01, writeEffect_p01] at hne
    by_cases hr : r = .sfior
    · exact ⟨d, by rw [hr], by simp_all⟩
    · exact absurd (if_neg hr) hne
  · exact absurd (microStep_registers hm h).p01 hne

theorem microStep_p2 {m : Micro} {s t : State} (h : microStep m s = .next t) (hne : t.p2 ≠ s.p2) :
    ∃ d, m = .wr .sfior d ∧ d.getLsbD 1 = true := by
  obtain ⟨r, d, rfl⟩ | hm := m.wr_or_not
  · obtain ⟨-, rfl⟩ := busWrite_next.mp h
    rw [State_postlude_p2, writeEffect_p2] at hne
    by_cases hr : r = .sfior
    · exact ⟨d, by rw [hr], by simp_all⟩
    · exact absurd (if_neg hr) hne
  · exact absurd (microStep_registers hm h).p2 hne

theorem microStep_t0 {m : Micro} {s t : State} (h : microStep m s = .next t) (hne : t.t0 ≠ s.t0) :
    ∃ r d, m = .wr r d ∧ r ∈ [Reg.tccr0, .tcnt0, .ocr0] := by
  obtain ⟨r, d, rfl⟩ | hm := m.wr_or_not
  · obtain ⟨-, rfl⟩ := busWrite_next.mp h
    exact ⟨r, d, rfl, (writeEffect_t0 s d r).resolve_left hne⟩
  · exact absurd (microStep_registers hm h).t0 hne

theorem microStep_t2 {m : Micro} {s t : State} (h : microStep m s = .next t) (hne : t.t2 ≠ s.t2) :
    ∃ r d, m = .wr r d ∧ r ∈ [Reg.tccr2, .tcnt2, .ocr2] := by
  obtain ⟨r, d, rfl⟩ | hm := m.wr_or_not
  · obtain ⟨-, rfl⟩ := busWrite_next.mp h
    exact ⟨r, d, rfl, (writeEffect_t2 s d r).resolve_left hne⟩
  · exact absurd (microStep_registers hm h).t2 hne

/-- A write of ASSR that sets AS2 is refused (R404). -/
theorem microStep_as2 {m : Micro} {s t : State} (h : microStep m s = .next t) (ht : t.as2 = true) : s.as2 = true := by
  obtain ⟨r, d, rfl⟩ | hm := m.wr_or_not
  · obtain ⟨hd, rfl⟩ := busWrite_next.mp h
    rw [State_postlude_as2, writeEffect_as2] at ht
    by_cases hr : r = .assr
    · exact absurd ⟨hr, by rwa [if_pos hr] at ht⟩ hd
    · rwa [if_neg hr] at ht
  · rwa [(microStep_registers hm h).as2] at ht

theorem microStep_vector {m : Micro} {s t : State} (h : microStep m s = .next t) : t.vector = s.vector := by
  obtain ⟨r, d, rfl⟩ | hm := m.wr_or_not
  · obtain ⟨-, rfl⟩ := busWrite_next.mp h
    exact (writeEffect_cpu s d r).2.2.1
  · exact (microStep_registers hm h).vector

theorem microStep_gie {m : Micro} {s t : State} (h : microStep m s = .next t) (ht : t.gie = true) :
    s.gie = true ∨ m = .sei ∨ m = .reti ∨ ∃ v, m = .getTimer1Ret v := by
  cases hm : m.isSeiOrReti with
  | true => exact .inr (Micro.isSeiOrReti_iff.mp hm)
  | false => exact .inl ((microStep_of_not_isSeiOrReti hm h).2 ht)

/-! ### What an action issued does -/

/-- What an action issued that answers a next state is. -/
theorem exec_next_cases {i : Instr} {s t : State} (h : exec i s = .next t) :
    (i = .accept ∧ ∃ src, s.selectSource = some src ∧ t = s.takeInterrupt src) ∨
    (i = .reti ∧ microStep .reti s = .next t) ∨
    (i = .clk ∧ t = clocked s) ∨
    (∃ level, t = { s with t0Pin := level } ∨ t = { s with t1Pin := level } ∨ t = { s with icpPin := level }) ∨
    (i.isBodyAction = true ∧ ∃ m rest, expand i = m :: rest ∧ microStep m (s.push rest) = .next t) := by
  by_cases hbody : i.isBodyAction = true
  · rw [exec_eq_startOperation hbody] at h
    exact .inr (.inr (.inr (.inr ⟨hbody, (startOperation_next.mp h).2⟩)))
  · cases i with
    | accept =>
      obtain ⟨-, src, hsrc, rfl⟩ := doAccept_next.mp h
      exact .inl ⟨rfl, src, hsrc, rfl⟩
    | reti => exact .inr (.inl ⟨rfl, h⟩)
    | clk =>
      obtain ⟨-, rfl⟩ := exec_clk_next.mp h
      exact .inr (.inr (.inl ⟨rfl, rfl⟩))
    | pinT0 level => exact .inr (.inr (.inr (.inl ⟨level, .inl (Host.Outcome.next.inj h).symm⟩)))
    | pinT1 level => exact .inr (.inr (.inr (.inl ⟨level, .inr (.inl (Host.Outcome.next.inj h).symm)⟩)))
    | pinIcp1 level => exact .inr (.inr (.inr (.inl ⟨level, .inr (.inr (Host.Outcome.next.inj h).symm)⟩)))
    | _ => exact absurd rfl hbody

/-- An expansion that begins with a write of TIMSK, TIFR or SFIOR is that write issued. -/
theorem expand_head_wr {i : Instr} {r : Reg} {d : Byte} {rest : List Micro} (h : expand i = .wr r d :: rest)
    (hr : r ∈ [Reg.timsk, .tifr, .sfior]) : i = r.writeInstr d := by
  have hinit (t : TimerId) (u : CmpUnit) (count : Half) (mode clksel comact : BitVec 4)
      (hm : initMicros t u count mode clksel comact = .wr r d :: rest) : False := by
    cases t <;> obtain ⟨⟨⟩, -⟩ := List.cons.inj hm <;> simp [tcntOf] at hr
  have hcompare (t : TimerId) (u : CmpUnit) (v : Half) (hm : setCompareMicros t u v = .wr r d :: rest) : False := by
    cases t <;> cases u <;> obtain ⟨⟨⟩, -⟩ := List.cons.inj hm <;> simp [ocr1HighOf] at hr
  cases i with
  | wrTimsk | wrTifr | wrSfior =>
    obtain ⟨⟨⟩, -⟩ := List.cons.inj h
    rfl
  | init => exact (hinit _ _ _ _ _ _ h).elim
  | setCompare => exact (hcompare _ _ _ h).elim
  | setTimer t | disable t | getTimer t => cases t <;> obtain ⟨⟨⟩, -⟩ := List.cons.inj h <;> simp at hr
  | delayMs t => cases t <;> cases h <;> simp [tcntOf] at hr
  | pwmInit ch freq =>
    have hm : pwmInitMicros Config.fCpu ch freq = .wr r d :: rest := h
    unfold pwmInitMicros at hm
    split at hm
    · cases hm
    · exact (hinit _ _ _ _ _ _ hm).elim
  | pwmWrite ch duty =>
    have hm : pwmWriteMicros ch duty = .wr r d :: rest := h
    unfold pwmWriteMicros at hm
    split at hm
    · cases hm
    · exact (hcompare _ _ _ hm).elim
  | clk | pinT0 | pinT1 | pinIcp1 | accept | reti => cases h
  | _ => obtain ⟨⟨⟩, -⟩ := List.cons.inj h <;> simp at hr

/-- An expansion that begins with a SLOT_STORE is that SLOT_STORE issued: ENABLE begins with a CLI. -/
theorem expand_head_slotStore {i : Instr} {src : Source} {cb : Half} {rest : List Micro}
    (h : expand i = .slotStore src cb :: rest) : i = .slotStore src cb := by
  cases i with
  | slotStore =>
    obtain ⟨⟨⟩, -⟩ := List.cons.inj h
    rfl
  | init t | disable t | setCompare t | setTimer t | getTimer t | delayMs t => cases t <;> cases h
  | pwmInit ch freq =>
    have hm : pwmInitMicros Config.fCpu ch freq = .slotStore src cb :: rest := h
    unfold pwmInitMicros at hm
    split at hm
    · cases hm
    · cases ch <;> cases hm
  | pwmWrite ch duty =>
    have hm : pwmWriteMicros ch duty = .slotStore src cb :: rest := h
    unfold pwmWriteMicros at hm
    split at hm
    · cases hm
    · cases ch <;> cases hm
  | _ => cases h

/-- GIE is set by SEI and RETI only. -/
theorem exec_gie {i : Instr} {s t : State} (h : exec i s = .next t) (ht : t.gie = true) :
    s.gie = true ∨ i = .sei ∨ i = .reti := by
  obtain ⟨-, src, -, rfl⟩ | ⟨rfl, -⟩ | ⟨-, rfl⟩ | ⟨level, rfl | rfl | rfl⟩ | ⟨-, m, rest, he, hstep⟩ := exec_next_cases h
  · cases ht
  · exact .inr (.inr rfl)
  · exact .inl ht
  · exact .inl ht
  · exact .inl ht
  · exact .inl ht
  · have hhead := expand_head_isSeiOrReti i
    rw [he] at hhead
    cases hm : m.isSeiOrReti with
    | true => exact .inr (.inl (by simpa [hm] using hhead))
    | false => exact .inl ((microStep_of_not_isSeiOrReti hm hstep).2 ht)

theorem clocked_flag_mono {s : State} {src : Source} (h : s.flag src = true) : (clocked s).flag src = true := by
  simp [clocked_flag, h]

theorem takeInterrupt_flag {s : State} {src o : Source} (h : (s.takeInterrupt src).flag o = true) :
    s.flag o = true := by
  have hflag : (s.tifr &&& ~~~onehot (sourceBit src)).getLsbD (sourceBit o) = true := h
  rw [BitVec.getLsbD_and, Bool.and_eq_true] at hflag
  exact hflag.1

/-- Settles O50: each kind of action issued by `exec_next_cases`, where the first action of an expansion is looked up
among the actions in progress. -/
theorem whatEachActionMayChange : Obligations.WhatEachActionMayChange := by
  refine ⟨fun i s t h => ?issued, fun m s t h => ?inProgress⟩
  case issued =>
    have hgie : t.gie = true → s.gie = true ∨ i = .sei ∨ i = .reti := exec_gie h
    obtain ⟨rfl, src, -, rfl⟩ | ⟨rfl, hstep⟩ | ⟨rfl, rfl⟩ | ⟨level, rfl | rfl | rfl⟩ | ⟨hbody, m, rest, he, hstep⟩ :=
      exec_next_cases h
    case inl =>
      exact ⟨fun hne => absurd rfl hne, fun hne => absurd rfl hne, fun _ => .inl rfl, hgie,
        fun o ho => .inl (takeInterrupt_flag ho), fun o _ => .inr (.inl rfl), fun hne => absurd rfl hne,
        fun hne => absurd rfl hne, id, rfl, rfl, rfl⟩
    case inr.inl =>
      obtain ⟨src, rest, -, rfl⟩ := doReti_next.mp hstep
      exact ⟨fun hne => absurd rfl hne, fun hne => absurd rfl hne, fun _ => .inr rfl, hgie, fun o => .inl,
        fun o => .inl, fun hne => absurd rfl hne, fun hne => absurd rfl hne, id, rfl, rfl, rfl⟩
    case inr.inr.inl =>
      exact ⟨fun hne => absurd rfl hne, fun hne => absurd rfl hne, fun hne => absurd rfl hne, hgie,
        fun _ _ => .inr rfl, fun o ho => .inl (clocked_flag_mono ho), fun _ => .inl rfl, fun _ => .inl rfl, id,
        rfl, rfl, rfl⟩
    case inr.inr.inr.inr =>
      have hsame := microStep_surroundings hstep
      refine ⟨fun hne => ?timsk, fun hne => ?slots, fun hne => ?isr, hgie,
        fun o ho => .inl ((microStep_flag hstep o).1 ho), fun o ho => ?tifr, fun hne => ?p01, fun hne => ?p2,
        microStep_as2 (s := s.push rest) hstep, hsame.input, hsame.faults, hsame.refusals⟩
      case timsk =>
        obtain ⟨d, rfl⟩ := microStep_timsk hstep hne
        exact ⟨d, expand_head_wr he (by decide)⟩
      case slots =>
        obtain ⟨src, cb, rfl, hcb⟩ := microStep_slots hstep hne
        exact ⟨src, cb, expand_head_slotStore he, hcb⟩
      case isr =>
        obtain rfl := (microStep_slots_isr hstep).2.resolve_left hne
        exact absurd (he ▸ List.mem_cons_self) (reti_notMem_expand i)
      case tifr =>
        obtain hflag | ⟨d, rfl, -⟩ := (microStep_flag hstep o).2 ho
        · exact .inl hflag
        · exact .inr (.inr ⟨d, expand_head_wr he (by decide)⟩)
      case p01 =>
        obtain ⟨d, rfl, hd⟩ := microStep_p01 hstep hne
        exact .inr ⟨d, expand_head_wr he (by decide), hd⟩
      case p2 =>
        obtain ⟨d, rfl, hd⟩ := microStep_p2 hstep hne
        exact .inr ⟨d, expand_head_wr he (by decide), hd⟩
    all_goals
      exact ⟨fun hne => absurd rfl hne, fun hne => absurd rfl hne, fun hne => absurd rfl hne, hgie, fun o => .inl,
        fun o => .inl, fun hne => absurd rfl hne, fun hne => absurd rfl hne, id, rfl, rfl, rfl⟩
  case inProgress =>
    obtain ⟨hinput, hfaults, hrefusals, ht0Pin, ht1Pin, ht0Smp, ht1Smp, hicpPin, hicpHist, hicpFilt⟩ :=
      microStep_surroundings h
    exact ⟨microStep_timsk h, microStep_slots h, (microStep_slots_isr h).2.resolve_left, microStep_gie h,
      fun src => (microStep_flag h src).1, fun src => (microStep_flag h src).2, microStep_p01 h, microStep_p2 h,
      microStep_t0 h, microStep_t2 h, microStep_as2 h, hinput, hfaults, hrefusals, microStep_vector h, ht0Pin, ht1Pin,
      ht0Smp, ht1Smp, hicpPin, hicpHist, hicpFilt⟩

end Sys2Proof.Machine
end

section
/-! PROOFS. The invariant (spec 40_register_access.md section 0, 44_interrupt_dispatch.md R333, R344, 60_exceptions.md
R402): that it holds after reset, and that every step keeps it: O11 and O12. -/

namespace Sys2Proof.Machine

/-! ### Compare values that follow their buffers (R174, R175) -/

/-- The active compare value of an 8-bit timer is the buffer where the mode is not buffered. -/
def Timer8.Follows (t : Timer8) : Prop := (class8 t.wgm).unbuffered = true → t.ocrAct = t.ocrBuf

/-- The same for both units of Timer1. -/
def Timer1.Follows (t : Timer1) : Prop :=
  (class1 t.wgm).unbuffered = true → t.ocrAAct = t.ocrABuf ∧ t.ocrBAct = t.ocrBBuf

theorem compareFollows_iff {s : State} : CompareFollows s ↔ s.t0.Follows ∧ s.t1.Follows ∧ s.t2.Follows := by
  constructor
  · rintro ⟨h0, h2, h1a, h1b⟩
    exact ⟨h0, fun h => ⟨h1a h, h1b h⟩, h2⟩
  · rintro ⟨h0, h1, h2⟩
    exact ⟨h0, h2, fun h => (h1 h).1, fun h => (h1 h).2⟩

theorem Timer8.modeChanged_follows (t : Timer8) : t.modeChanged.Follows := by
  intro h
  rw [Timer8.modeChanged_eq] at h ⊢
  exact if_pos ((class8_unbuffered_iff _).mp h)

theorem Timer8.writeTccr_follows (t : Timer8) (d : Byte) : (t.writeTccr d).Follows := by
  rw [Timer8.writeTccr_eq]
  exact Timer8.modeChanged_follows _

theorem Timer8.writeOcr_follows (t : Timer8) (v : Byte) : (t.writeOcr v).Follows := fun h => if_pos h

theorem Timer1.modeChanged_follows (t : Timer1) : t.modeChanged.Follows := by
  intro h
  rw [Timer1.modeChanged_eq] at h ⊢
  exact ⟨if_pos ((class1_unbuffered_iff _).mp h), if_pos ((class1_unbuffered_iff _).mp h)⟩

theorem Timer1.writeTccrA_follows (t : Timer1) (d : Byte) : (t.writeTccrA d).Follows := by
  rw [Timer1.writeTccrA_eq]
  exact Timer1.modeChanged_follows _

theorem Timer1.writeTccrB_follows (t : Timer1) (d : Byte) : (t.writeTccrB d).Follows := Timer1.modeChanged_follows _

theorem Timer1.writeOcrA_follows {t : Timer1} (ht : t.Follows) (v : Half) : (t.writeOcrA v).Follows :=
  fun h => ⟨if_pos h, (ht h).2⟩

theorem Timer1.writeOcrB_follows {t : Timer1} (ht : t.Follows) (v : Half) : (t.writeOcrB v).Follows :=
  fun h => ⟨(ht h).1, if_pos h⟩

theorem Timer1.writeIcrL_follows {t : Timer1} (ht : t.Follows) (d : Byte) : (t.writeIcrL d).Follows := by
  rw [Timer1.writeIcrL_eq]
  exact ht

theorem writeEffect_follows {s : State} (hs : CompareFollows s) (d : Byte) (r : Reg) :
    CompareFollows (s.writeEffect d r) := by
  obtain ⟨h0, h1, h2⟩ := compareFollows_iff.mp hs
  refine compareFollows_iff.mpr ?_
  cases r with
  | tccr0 => exact ⟨s.t0.writeTccr_follows d, h1, h2⟩
  | ocr0 => exact ⟨s.t0.writeOcr_follows d, h1, h2⟩
  | tccr2 => exact ⟨h0, h1, s.t2.writeTccr_follows d⟩
  | ocr2 => exact ⟨h0, h1, s.t2.writeOcr_follows d⟩
  | tccr1a => exact ⟨h0, s.t1.writeTccrA_follows d, h2⟩
  | tccr1b => exact ⟨h0, s.t1.writeTccrB_follows d, h2⟩
  | ocr1al => exact ⟨h0, Timer1.writeOcrA_follows h1 _, h2⟩
  | ocr1bl => exact ⟨h0, Timer1.writeOcrB_follows h1 _, h2⟩
  | icr1l => exact ⟨h0, Timer1.writeIcrL_follows h1 d, h2⟩
  | _ => exact ⟨h0, h1, h2⟩

/-- The buffers are loaded at a tick only in the modes that are buffered (R250). -/
theorem updatePoint_of_unbuffered {cls : WaveClass} (h : cls.unbuffered = true) (k : CountStep) :
    updatePoint cls k = false := by
  cases cls with
  | normal | ctc | reserved => rfl
  | fast | pc | pfc => cases h

theorem Timer8.step_follows {t : Timer8} (ht : t.Follows) : t.step.Follows := by
  intro h
  have hact : t.step.ocrAct = if updatePoint (class8 t.wgm) t.countStep then t.ocrBuf else t.ocrAct := rfl
  rw [hact, updatePoint_of_unbuffered (cls := class8 t.wgm) h]
  exact ht h

theorem Timer1.step_follows {t : Timer1} (ht : t.Follows) : t.step.Follows := by
  intro h
  have hA : t.step.ocrAAct = if updatePoint (class1 t.wgm) t.countStep then t.ocrABuf else t.ocrAAct := rfl
  have hB : t.step.ocrBAct = if updatePoint (class1 t.wgm) t.countStep then t.ocrBBuf else t.ocrBAct := rfl
  rw [hA, hB, updatePoint_of_unbuffered (cls := class1 t.wgm) h]
  exact ht h

theorem clocked_follows {s : State} (hs : CompareFollows s) : CompareFollows (clocked s) := by
  obtain ⟨h0, h1, h2⟩ := compareFollows_iff.mp hs
  have hfront : (captureFrontEnd s).t1.Follows := by
    rw [captureFrontEnd_t1]
    exact h1
  refine compareFollows_iff.mpr ⟨?_, ?_, ?_⟩
  · show (if tick0 s then s.t0.step else s.t0).Follows
    split
    · exact Timer8.step_follows h0
    · exact h0
  · rw [clocked_t1]
    split
    · exact Timer1.step_follows hfront
    · exact hfront
  · show (if tick2 s then s.t2.step else s.t2).Follows
    split
    · exact Timer8.step_follows h2
    · exact h2

theorem microStep_follows {m : Micro} {s t : State} (h : microStep m s = .next t) (hs : CompareFollows s) :
    CompareFollows t := by
  obtain ⟨r, d, rfl⟩ | hm := m.wr_or_not
  · obtain ⟨-, rfl⟩ := busWrite_next.mp h
    obtain ⟨h0, h2, h1a, h1b⟩ := writeEffect_follows hs d r
    exact ⟨h0, h2, h1a, h1b⟩
  · obtain ⟨h0, h1, h2⟩ := compareFollows_iff.mp hs
    have hreg := microStep_registers hm h
    refine compareFollows_iff.mpr ⟨?_, ?_, ?_⟩
    · rw [hreg.t0]
      exact h0
    · rw [hreg.t1]
      exact h1
    · rw [hreg.t2]
      exact h2

/-! ### Slots hold no null id (R336) -/

theorem microStep_noNull {m : Micro} {s t : State} (h : microStep m s = .next t) (hs : s.slots.noNull) :
    t.slots.noNull := by
  by_cases hslots : t.slots = s.slots
  · rwa [hslots]
  · obtain ⟨src, cb, rfl, hcb⟩ := microStep_slots h hslots
    obtain rfl := Host.Outcome.next.inj h
    rw [doSlotStore_of_ne_null hcb]
    intro o
    by_cases ho : o = src
    · subst ho
      simpa using hcb
    · rw [slotOf_setSlot_other _ _ ho]
      exact hs o

/-! ### Every accepted interrupt has one RETI still to come (R333, R344) -/

theorem retiCount_append (ms ps : List Micro) : retiCount (ms ++ ps) = retiCount ms + retiCount ps :=
  List.countP_append

theorem retiCount_of_notMem {ms : List Micro} (h : Micro.reti ∉ ms) : retiCount ms = 0 := by
  refine List.countP_eq_zero.mpr fun m hm hreti => h ?_
  obtain rfl : m = .reti := by simpa using hreti
  exact hm

theorem retiCount_cons (m : Micro) (ms : List Micro) :
    retiCount (m :: ms) = retiCount ms + if m = .reti then 1 else 0 := by
  simp [retiCount, List.countP_cons]

theorem retiCount_isrMicros (src : Source) (ps : List Micro) :
    retiCount (isrMicros src ++ ps) = retiCount ps + 1 := by
  rw [retiCount_append, Nat.add_comm]
  rfl

@[simp] theorem busRead_pending (s : State) (r : Reg) : (s.busRead r).pending = s.pending := by
  rw [busRead_eq]

theorem busRead_push_pending (s : State) (r : Reg) (ms : List Micro) :
    ((s.busRead r).push ms).pending = ms ++ s.pending :=
  congrArg (ms ++ ·) (busRead_pending s r)

/-- An action in progress puts no RETI in front of what stands behind it. -/
theorem microStep_pending {m : Micro} {s t : State} (h : microStep m s = .next t) :
    ∃ ms, t.pending = ms ++ s.pending ∧ Micro.reti ∉ ms := by
  cases m with
  | refuse r => cases h
  | wr r d =>
    obtain ⟨-, rfl⟩ := busWrite_next.mp h
    exact ⟨[], (writeEffect_cpu s d r).2.2.2, List.not_mem_nil⟩
  | reti =>
    obtain ⟨src, rest, -, rfl⟩ := doReti_next.mp h
    exact ⟨[], rfl, List.not_mem_nil⟩
  | invoke src =>
    obtain ⟨cb, -, rfl⟩ := doInvoke_next.mp h
    exact ⟨bodyMicros cb, rfl, reti_notMem_bodyMicros cb⟩
  | slotStore src cb =>
    obtain rfl := Host.Outcome.next.inj h
    refine ⟨[], ?_, List.not_mem_nil⟩
    unfold State.doSlotStore
    split <;> rfl
  | rd r | getTimer8 n =>
    obtain rfl := Host.Outcome.next.inj h
    exact ⟨[], busRead_pending s _, List.not_mem_nil⟩
  | sei | cli | getTimer1Ret =>
    obtain rfl := Host.Outcome.next.inj h
    exact ⟨[], rfl, List.not_mem_nil⟩
  | rmw r keep v =>
    obtain rfl := Host.Outcome.next.inj h
    exact ⟨[.wr r _], busRead_push_pending s _ _, by simp⟩
  | initCom n act =>
    obtain rfl := Host.Outcome.next.inj h
    refine ⟨initComWrite n act _, busRead_push_pending s _ _, ?_⟩
    unfold initComWrite
    split <;> simp
  | initCom1 u act =>
    obtain rfl := Host.Outcome.next.inj h
    exact ⟨[.initCom1A u act _], busRead_push_pending s _ _, by simp⟩
  | initCom1A u act w =>
    obtain rfl := Host.Outcome.next.inj h
    refine ⟨initCom1Write u act w _, busRead_push_pending s _ _, ?_⟩
    unfold initCom1Write
    split <;> simp
  | setTimer1 v =>
    obtain rfl := Host.Outcome.next.inj h
    refine ⟨_, rfl, ?_⟩
    split <;> simp
  | getTimer1 =>
    obtain rfl := Host.Outcome.next.inj h
    exact ⟨[.getTimer1L s.gie], rfl, by simp⟩
  | getTimer1L g =>
    obtain rfl := Host.Outcome.next.inj h
    exact ⟨[.getTimer1H g _], rfl, by simp⟩
  | getTimer1H g lo =>
    cases g <;> obtain rfl := Host.Outcome.next.inj h
    · exact ⟨[], rfl, List.not_mem_nil⟩
    · exact ⟨[.getTimer1Ret _], rfl, by simp⟩
  | poll n left =>
    obtain rfl := Host.Outcome.next.inj h
    refine ⟨afterPoll n left _, busRead_push_pending s _ _, ?_⟩
    unfold afterPoll
    split
    · cases hleft : left - 1 <;> simp [pollMicros]
    · simp

/-- RETI pops one accepted source, no other action changes their number. -/
theorem microStep_isr_length {m : Micro} {s t : State} (h : microStep m s = .next t) :
    s.isr.length = t.isr.length + if m = .reti then 1 else 0 := by
  by_cases hm : m = .reti
  · subst hm
    obtain ⟨src, rest, hisr, rfl⟩ := doReti_next.mp h
    simp [hisr]
  · rw [(microStep_slots_isr h).2.resolve_right hm, if_neg hm]
    rfl

/-! ### The invariant -/

/-- Settles O11: every field is at its reset value. -/
theorem resetMeetsInvariant : Obligations.ResetMeetsInvariant := fun d =>
  ⟨⟨fun _ => rfl, fun _ => rfl, fun _ => rfl, fun _ => rfl⟩, rfl, fun src => by simp, rfl, rfl, rfl⟩

/-- What is issued does not matter. -/
theorem Inv.withInput {s : State} (h : Inv s) (rest : List Input) : Inv { s with input := rest } := by
  obtain ⟨⟨h0, h2, h1a, h1b⟩, has, hsl, hisr, hf, hr⟩ := h
  exact ⟨⟨h0, h2, h1a, h1b⟩, has, hsl, hisr, hf, hr⟩

/-- Actions in progress that are no RETI may be put in front. -/
theorem Inv.push {s : State} (h : Inv s) {ms : List Micro} (hms : Micro.reti ∉ ms) : Inv (s.push ms) := by
  obtain ⟨⟨h0, h2, h1a, h1b⟩, has, hsl, hisr, hf, hr⟩ := h
  refine ⟨⟨h0, h2, h1a, h1b⟩, has, hsl, ?_, hf, hr⟩
  rw [State_push_pending, retiCount_append, retiCount_of_notMem hms, Nat.zero_add]
  exact hisr

theorem microStep_keeps_inv {m : Micro} {ms : List Micro} {s t : State} (hs : Inv s) (hp : s.pending = m :: ms)
    (h : microStep m { s with pending := ms } = .next t) : Inv t := by
  have hsame := microStep_surroundings h
  obtain ⟨⟨h0, h2, h1a, h1b⟩, has, hsl, hisr, hf, hr⟩ := hs
  refine ⟨microStep_follows h ⟨h0, h2, h1a, h1b⟩, ?async, microStep_noNull h hsl, ?isr, hsame.faults.trans hf,
    hsame.refusals.trans hr⟩
  case async =>
    refine Bool.eq_false_iff.mpr fun ht => ?_
    have hbefore : s.as2 = true := microStep_as2 (s := { s with pending := ms }) h ht
    rw [has] at hbefore
    cases hbefore
  case isr =>
    obtain ⟨ns, hpending, hns⟩ := microStep_pending h
    have hlength : s.isr.length = _ := microStep_isr_length (s := { s with pending := ms }) h
    rw [hp, retiCount_cons] at hisr
    rw [hpending, retiCount_append, retiCount_of_notMem hns]
    show 0 + retiCount ms = _
    omega

/-- An action issued that runs now keeps the invariant: with nothing in progress RETI has no interrupt to return
from. -/
theorem exec_keeps_inv {i : Instr} {s t : State} (hs : Inv s) (hreti : i = .reti → s.pending = [])
    (h : exec i s = .next t) : Inv t := by
  obtain ⟨rfl, src, -, rfl⟩ | ⟨rfl, hstep⟩ | ⟨rfl, rfl⟩ | hpin | ⟨hbody, m, rest, he, hstep⟩ := exec_next_cases h
  · obtain ⟨⟨h0, h2, h1a, h1b⟩, has, hsl, hisr, hf, hr⟩ := hs
    refine ⟨⟨h0, h2, h1a, h1b⟩, has, hsl, ?_, hf, hr⟩
    rw [State_takeInterrupt_pending, retiCount_isrMicros, hisr]
    rfl
  · obtain ⟨src, rest, hisr, -⟩ := doReti_next.mp hstep
    have hcount := hs.isr
    rw [hreti rfl, hisr] at hcount
    cases hcount
  · obtain ⟨hcmp, has, hsl, hisr, hf, hr⟩ := hs
    exact ⟨clocked_follows hcmp, has, hsl, hisr, hf, hr⟩
  · obtain ⟨⟨h0, h2, h1a, h1b⟩, has, hsl, hisr, hf, hr⟩ := hs
    obtain ⟨level, rfl | rfl | rfl⟩ := hpin <;> exact ⟨⟨h0, h2, h1a, h1b⟩, has, hsl, hisr, hf, hr⟩
  · have hpush : Inv (s.push (m :: rest)) := hs.push (he ▸ reti_notMem_expand i)
    exact microStep_keeps_inv hpush rfl hstep

theorem cpuTurn_keeps_inv {s t : State} (hs : Inv s) (h : cpuTurn s = .next t) : Inv t := by
  obtain ⟨-, haccept⟩ | ⟨-, -, rfl⟩ | ⟨-, m, ms, hp, hstep⟩ := cpuTurn_next h
  · exact exec_keeps_inv (i := .accept) hs (fun hi => by cases hi) haccept
  · exact hs
  · exact microStep_keeps_inv hs hp hstep

/-- RETI runs only with nothing in progress. -/
theorem pending_of_runsNow_reti {s : State} {during : Bool} (h : s.runsNow .reti during = true) : s.pending = [] := by
  rw [runsNow_cpu rfl (by decide), Bool.and_eq_true] at h
  simpa using h.2

theorem takeWord_keeps_inv {w : ActionWord} {during : Bool} {rest : List Input} {s t : State} (hs : Inv s)
    (h : takeWord w during rest s = .next t) : Inv t := by
  obtain ⟨i, -, ⟨hruns, hexec⟩ | ⟨-, hturn⟩⟩ := takeWord_next h
  · refine exec_keeps_inv (hs.withInput rest) (fun hi => ?_) hexec
    subst hi
    exact pending_of_runsNow_reti hruns
  · exact cpuTurn_keeps_inv hs hturn

theorem idleTurn_next {s t : State} (h : idleTurn s = .next t) : cpuTurn s = .next t := by
  unfold idleTurn at h
  split at h
  · cases h
  · exact h

/-- Settles O12: by what is issued next. -/
theorem stepKeepsInvariant : Obligations.StepKeepsInvariant := by
  intro s t hs h
  obtain ⟨-, -, hnext⟩ := step_next.mp h
  unfold nextAction at hnext
  split at hnext
  case h_1 => exact cpuTurn_keeps_inv hs (idleTurn_next hnext)
  case h_2 rest _ => exact cpuTurn_keeps_inv (hs.withInput rest) hnext
  case h_3 => exact takeWord_keeps_inv hs hnext
  case h_4 => exact takeWord_keeps_inv hs hnext

end Sys2Proof.Machine
end

section
/-! PROOFS. Register accesses (spec 40_register_access.md): the TEMP1 protocol of the 16-bit registers, what a register
reads as after it is written, and what a write leaves of the others: O16, O17, O23 and O24. -/

namespace Sys2Proof.Machine

/-! ### Sequences of CLKs -/

/-- What each CLK takes from one count of CLKs to the next holds after k of them. -/
theorem clocks_keep {P : Nat → State → Prop} (hstep : ∀ j s, P j s → P (j + 1) (clocked s)) {k : Nat} {s t : State}
    (hs : P 0 s) (h : clocks k s = .next t) : P k t := by
  induction k generalizing s P with
  | zero =>
    obtain rfl := Host.Outcome.next.inj h
    exact hs
  | succ k ih =>
    cases hclk : exec .clk s with
    | next u =>
      obtain ⟨-, rfl⟩ := exec_clk_next.mp hclk
      rw [clocks_succ k hclk] at h
      exact ih (P := fun j => P (j + 1)) (fun j => hstep (j + 1)) (hstep 0 s hs) h
    | fault f => simp [clocks, hclk] at h
    | refused r => simp [clocks, hclk] at h

/-- The same where no CLK is refused: then they complete. -/
theorem clocks_complete {P : Nat → State → Prop}
    (hstep : ∀ j s, P j s → clockRefusals s = [] ∧ P (j + 1) (clocked s)) (k : Nat) {s : State} (hs : P 0 s) :
    ∃ t, clocks k s = .next t ∧ P k t := by
  induction k generalizing s P with
  | zero => exact ⟨s, rfl, hs⟩
  | succ k ih =>
    obtain ⟨hok, hnext⟩ := hstep 0 s hs
    obtain ⟨t, hclocks, ht⟩ := ih (P := fun j => P (j + 1)) (fun j => hstep (j + 1)) hnext
    exact ⟨t, (clocks_succ k (exec_clk_next.mpr ⟨hok, rfl⟩)).trans hclocks, ht⟩

/-- A CLK leaves Timer1's control fields, its buffers and TEMP1. -/
theorem clocked_t1_control (s : State) :
    (clocked s).t1.wgm = s.t1.wgm ∧ (clocked s).t1.comA = s.t1.comA ∧ (clocked s).t1.comB = s.t1.comB ∧
      (clocked s).t1.cs = s.t1.cs ∧ (clocked s).t1.icnc = s.t1.icnc ∧ (clocked s).t1.ices = s.t1.ices ∧
      (clocked s).t1.ocrABuf = s.t1.ocrABuf ∧ (clocked s).t1.ocrBBuf = s.t1.ocrBBuf ∧
      (clocked s).t1.temp = s.t1.temp := by
  rw [clocked_t1, captureFrontEnd_t1]
  split <;> exact ⟨rfl, rfl, rfl, rfl, rfl, rfl, rfl, rfl, rfl⟩

theorem clocks_t1_temp_wgm {k : Nat} {s t : State} (h : clocks k s = .next t) :
    t.t1.temp = s.t1.temp ∧ t.t1.wgm = s.t1.wgm := by
  refine clocks_keep (P := fun _ u => u.t1.temp = s.t1.temp ∧ u.t1.wgm = s.t1.wgm) (fun _ u hu => ?_) ⟨rfl, rfl⟩ h
  obtain ⟨hwgm, -, -, -, -, -, -, -, htemp⟩ := clocked_t1_control u
  exact ⟨htemp.trans hu.1, hwgm.trans hu.2⟩

/-! ### The TEMP1 protocol (R85, R180 to R195) -/

theorem toNat_hiByte_loByte (v : Half) : 256 * (hiByte v).toNat + (loByte v).toNat = v.toNat := by
  rw [hiByte_eq_ofNat, loByte_eq_ofNat, BitVec.toNat_ofNat, BitVec.toNat_ofNat]
  omega

theorem toNat_pair (h l : Byte) : (pair h l).toNat = 256 * h.toNat + l.toNat := by
  rw [pair, toNat_append_eq_add]
  omega

/-- The low read leaves the high byte in TEMP1, where the high read finds it. -/
theorem read_protocol {rl rh : Reg} {v : Half} {k : Nat} {s s1 s2 s3 : State} (hlow : s.readValue rl = loByte v)
    (htemp : s.readEffect rl = s.setTemp (hiByte v)) (hhigh : ∀ u : State, u.readValue rh = u.t1.temp)
    (h1 : exec rl.readInstr s = .next s1) (h2 : clocks k s1 = .next s2) (h3 : exec rh.readInstr s2 = .next s3) :
    256 * s3.rdata.toNat + s1.rdata.toNat = v.toNat := by
  obtain rfl := Host.Outcome.next.inj ((exec_readInstr_eq hlow htemp).symm.trans h1)
  obtain rfl := Host.Outcome.next.inj ((exec_readInstr rh s2).symm.trans h3)
  rw [busRead_rdata, hhigh, (clocks_t1_temp_wgm h2).1]
  exact toNat_hiByte_loByte v

/-- Settles O16: CLKs leave TEMP1 alone. -/
theorem sixteenBitReadIsOneValue : Obligations.SixteenBitReadIsOneValue := fun _ _ _ _ _ =>
  ⟨read_protocol (rl := .tcnt1l) (rh := .tcnt1h) rfl rfl fun _ => rfl,
    read_protocol (rl := .icr1l) (rh := .icr1h) rfl rfl fun _ => rfl⟩

/-- The high write leaves its byte in TEMP1, and the low write is made with it and in the mode of the start. -/
theorem write_protocol {rh rl : Reg} {h l : Byte} {k : Nat} {s s1 s2 s3 : State} (hrh : rh ≠ .assr) (hrl : rl ≠ .assr)
    (hhigh : s.writeEffect h rh = s.setTemp h) (h1 : exec (rh.writeInstr h) s = .next s1)
    (h2 : clocks k s1 = .next s2) (h3 : exec (rl.writeInstr l) s2 = .next s3) :
    s3 = { s2.writeEffect l rl with shadow := false } ∧ s2.t1.temp = h ∧ s2.t1.wgm = s.t1.wgm := by
  obtain rfl := Host.Outcome.next.inj ((exec_writeInstr_eq hrh hhigh).symm.trans h1)
  obtain rfl := Host.Outcome.next.inj ((exec_writeInstr_eq hrl rfl).symm.trans h3)
  exact ⟨rfl, clocks_t1_temp_wgm h2⟩

/-- Settles O17: the low write stores the pair of TEMP1 and its byte. -/
theorem sixteenBitWriteIsOneValue : Obligations.SixteenBitWriteIsOneValue := by
  intro s s1 s2 s3 k h l
  refine ⟨fun h1 h2 h3 => ?tcnt, fun h1 h2 h3 => ?ocrA, fun h1 h2 h3 => ?ocrB, fun hmode h1 h2 h3 => ?icr⟩
  case tcnt =>
    obtain ⟨rfl, htemp, -⟩ := write_protocol (rh := .tcnt1h) (rl := .tcnt1l) (by decide) (by decide) rfl h1 h2 h3
    exact ⟨htemp ▸ toNat_pair _ l, rfl⟩
  case ocrA =>
    obtain ⟨rfl, htemp, -⟩ := write_protocol (rh := .ocr1ah) (rl := .ocr1al) (by decide) (by decide) rfl h1 h2 h3
    exact htemp ▸ toNat_pair _ l
  case ocrB =>
    obtain ⟨rfl, htemp, -⟩ := write_protocol (rh := .ocr1bh) (rl := .ocr1bl) (by decide) (by decide) rfl h1 h2 h3
    exact htemp ▸ toNat_pair _ l
  case icr =>
    obtain ⟨rfl, htemp, hwgm⟩ := write_protocol (rh := .icr1h) (rl := .icr1l) (by decide) (by decide) rfl h1 h2 h3
    show (s2.t1.writeIcrL l).icr.toNat = _
    rw [Timer1.writeIcrL_eq, htemp]
    exact (congrArg BitVec.toNat (if_pos (hwgm ▸ hmode))).trans (toNat_pair h l)

/-! ### What a register reads as after it is written -/

theorem Timer8.writeTccr_control (t : Timer8) (d : Byte) :
    (t.writeTccr d).wgm = field d 3 1 ++ field d 6 1 ∧ (t.writeTccr d).com = field d 4 2 ∧
      (t.writeTccr d).cs = field d 0 3 ∧ (t.writeTccr d).tcnt = t.tcnt ∧ (t.writeTccr d).ocrBuf = t.ocrBuf := by
  rw [Timer8.writeTccr_eq, Timer8.modeChanged_eq]
  exact ⟨rfl, rfl, rfl, rfl, rfl⟩

/-- FOC0 and FOC2 read 0. -/
theorem Timer8.readTccr_writeTccr (t : Timer8) (d : Byte) : (t.writeTccr d).readTccr = d &&& 0x7F#8 := by
  obtain ⟨hwgm, hcom, hcs, -, -⟩ := t.writeTccr_control d
  rw [Timer8.readTccr, hwgm, hcom, hcs]
  refine BitVec.eq_of_getLsbD_eq fun i hi => ?_
  simp only [field, BitVec.getLsbD_append, BitVec.getLsbD_extractLsb', BitVec.getLsbD_and]
  interval_cases i <;> simp

theorem Timer1.writeTccrA_control (t : Timer1) (d : Byte) :
    (t.writeTccrA d).wgm = field t.wgm 2 2 ++ field d 0 2 ∧ (t.writeTccrA d).comA = field d 6 2 ∧
      (t.writeTccrA d).comB = field d 4 2 := by
  rw [Timer1.writeTccrA_eq, Timer1.modeChanged_eq]
  exact ⟨rfl, rfl, rfl⟩

/-- A write of TCCR1A leaves what is read elsewhere than in COM1A, COM1B and the mode. -/
theorem Timer1.writeTccrA_other (t : Timer1) (d : Byte) :
    (t.writeTccrA d).icnc = t.icnc ∧ (t.writeTccrA d).ices = t.ices ∧ (t.writeTccrA d).cs = t.cs ∧
      (t.writeTccrA d).tcnt = t.tcnt ∧ (t.writeTccrA d).ocrABuf = t.ocrABuf ∧
      (t.writeTccrA d).ocrBBuf = t.ocrBBuf ∧ (t.writeTccrA d).icr = t.icr ∧ (t.writeTccrA d).temp = t.temp := by
  rw [Timer1.writeTccrA_eq, Timer1.modeChanged_eq]
  exact ⟨rfl, rfl, rfl, rfl, rfl, rfl, rfl, rfl⟩

theorem Timer1.writeTccrB_control (t : Timer1) (d : Byte) :
    (t.writeTccrB d).wgm = field d 3 2 ++ field t.wgm 0 2 ∧ (t.writeTccrB d).icnc = d.getLsbD 7 ∧
      (t.writeTccrB d).ices = d.getLsbD 6 ∧ (t.writeTccrB d).cs = field d 0 3 := by
  rw [Timer1.writeTccrB, Timer1.modeChanged_eq]
  exact ⟨rfl, rfl, rfl, rfl⟩

theorem Timer1.writeTccrB_other (t : Timer1) (d : Byte) :
    (t.writeTccrB d).comA = t.comA ∧ (t.writeTccrB d).comB = t.comB ∧
      (t.writeTccrB d).tcnt = t.tcnt ∧ (t.writeTccrB d).ocrABuf = t.ocrABuf ∧
      (t.writeTccrB d).ocrBBuf = t.ocrBBuf ∧ (t.writeTccrB d).icr = t.icr ∧ (t.writeTccrB d).temp = t.temp := by
  rw [Timer1.writeTccrB, Timer1.modeChanged_eq]
  exact ⟨rfl, rfl, rfl, rfl, rfl, rfl, rfl⟩

/-- FOC1A and FOC1B read 0. -/
theorem Timer1.readTccrA_writeTccrA (t : Timer1) (d : Byte) : (t.writeTccrA d).readTccrA = d &&& 0xF3#8 := by
  obtain ⟨hwgm, hcomA, hcomB⟩ := t.writeTccrA_control d
  rw [Timer1.readTccrA, hwgm, hcomA, hcomB]
  refine BitVec.eq_of_getLsbD_eq fun i hi => ?_
  simp only [field, BitVec.getLsbD_append, BitVec.getLsbD_extractLsb', BitVec.getLsbD_and]
  interval_cases i <;> simp

/-- Bit 5 of TCCR1B reads 0. -/
theorem Timer1.readTccrB_writeTccrB (t : Timer1) (d : Byte) : (t.writeTccrB d).readTccrB = d &&& 0xDF#8 := by
  obtain ⟨hwgm, hicnc, hices, hcs⟩ := t.writeTccrB_control d
  rw [Timer1.readTccrB, hwgm, hicnc, hices, hcs]
  refine BitVec.eq_of_getLsbD_eq fun i hi => ?_
  simp only [field, BitVec.getLsbD_append, BitVec.getLsbD_extractLsb', BitVec.getLsbD_and, BitVec.getLsbD_ofBool]
  interval_cases i <;> simp

/-- PSR2, PSR10 and the reserved bit 4 read 0. -/
theorem readSfior_writeSfior (s : State) (d : Byte) : (s.writeSfior d).readSfior = d &&& 0xEC#8 := by
  refine BitVec.eq_of_getLsbD_eq fun i hi => ?_
  simp only [State.readSfior, State.writeSfior, field, BitVec.getLsbD_append, BitVec.getLsbD_extractLsb',
    BitVec.getLsbD_and, BitVec.getLsbD_ofBool]
  interval_cases i <;> simp

theorem loByte_pair (h l : Byte) : loByte (pair h l) = l := BitVec.extractLsb'_append_eq_right

/-- A write that answers a next state, seen by a read: the postlude is not read. -/
theorem readValue_of_write {r : Reg} {d : Byte} {s t : State} (h : exec (r.writeInstr d) s = .next t) (r' : Reg) :
    t.readValue r' = (s.writeEffect d r).readValue r' ∧ ¬(r = .assr ∧ d.getLsbD 3 = true) := by
  rw [exec_writeInstr] at h
  obtain ⟨hd, rfl⟩ := busWrite_next.mp h
  exact ⟨by cases r' <;> rfl, hd⟩

/-- Settles O23: register by register. -/
theorem writeThenReadBack : Obligations.WriteThenReadBack := by
  intro s t d
  have hfull : d &&& 0xFF#8 = d := BitVec.and_allOnes
  refine ⟨fun r m hmem h => ?masked, fun h => (readValue_of_write (r := .tifr) h .tifr).1, fun h => ?icr1l⟩
  case masked =>
    obtain ⟨hread, hassr⟩ := readValue_of_write h r
    rw [hread]
    simp only [List.mem_cons, Prod.mk.injEq, List.not_mem_nil, or_false] at hmem
    obtain ⟨rfl, rfl⟩ | ⟨rfl, rfl⟩ | ⟨rfl, rfl⟩ | ⟨rfl, rfl⟩ | ⟨rfl, rfl⟩ | ⟨rfl, rfl⟩ | ⟨rfl, rfl⟩ | ⟨rfl, rfl⟩ |
      ⟨rfl, rfl⟩ | ⟨rfl, rfl⟩ | ⟨rfl, rfl⟩ | ⟨rfl, rfl⟩ | ⟨rfl, rfl⟩ | ⟨rfl, rfl⟩ | ⟨rfl, rfl⟩ | ⟨rfl, rfl⟩ := hmem
    · exact s.t0.readTccr_writeTccr d
    · exact hfull.symm
    · exact hfull.symm
    · exact s.t2.readTccr_writeTccr d
    · exact hfull.symm
    · exact hfull.symm
    · have hd : d.getLsbD 3 = false := Bool.eq_false_iff.mpr fun hd => hassr ⟨rfl, hd⟩
      rw [State.readValue, State.readAssr_eq, writeEffect_as2, if_pos rfl, hd, BitVec.and_zero]
      rfl
    · exact s.t1.readTccrA_writeTccrA d
    · exact s.t1.readTccrB_writeTccrB d
    · exact hfull.symm
    · exact (loByte_pair _ d).trans hfull.symm
    · exact (loByte_pair _ d).trans hfull.symm
    · exact (loByte_pair _ d).trans hfull.symm
    · exact hfull.symm
    · exact hfull.symm
    · exact readSfior_writeSfior s d
  case icr1l =>
    rw [(readValue_of_write (r := .icr1l) h .icr1l).1]
    show loByte (s.t1.writeIcrL d).icr = if _ then d else loByte s.t1.icr
    rw [Timer1.writeIcrL_eq]
    exact (apply_ite loByte _ _ _).trans (by rw [loByte_pair])

/-! ### What a write leaves of the other registers -/

/-- The mode bits in TCCR1B are not those a write of TCCR1A replaces. -/
theorem Timer1.readTccrB_writeTccrA (t : Timer1) (d : Byte) : (t.writeTccrA d).readTccrB = t.readTccrB := by
  obtain ⟨hwgm, -, -⟩ := t.writeTccrA_control d
  obtain ⟨hicnc, hices, hcs, -⟩ := t.writeTccrA_other d
  rw [Timer1.readTccrB, hwgm, hicnc, hices, hcs, Timer1.readTccrB]
  exact congrArg (_ ++ · ++ _) BitVec.extractLsb'_append_eq_left

theorem Timer1.readTccrA_writeTccrB (t : Timer1) (d : Byte) : (t.writeTccrB d).readTccrA = t.readTccrA := by
  obtain ⟨hwgm, -⟩ := t.writeTccrB_control d
  obtain ⟨hcomA, hcomB, -⟩ := t.writeTccrB_other d
  rw [Timer1.readTccrA, hwgm, hcomA, hcomB, Timer1.readTccrA]
  exact congrArg (_ ++ ·) BitVec.extractLsb'_append_eq_right

/-- The other registers of a timer after a write of one. -/
theorem readValue_writeEffect (s : State) (d : Byte) {r r' : Reg} (hne : r' ≠ r)
    (htemp : ¬(r ∈ [Reg.tcnt1h, .ocr1ah, .ocr1bh, .icr1h] ∧ r' ∈ [Reg.tcnt1h, .icr1h]))
    (hA : ¬(r = .ocr1al ∧ r' = .ocr1ah)) (hB : ¬(r = .ocr1bl ∧ r' = .ocr1bh)) :
    (s.writeEffect d r).readValue r' = s.readValue r' := by
  cases r with
  | tccr0 =>
    obtain ⟨-, -, -, htcnt, hocr⟩ := s.t0.writeTccr_control d
    cases r' with
    | tccr0 => exact absurd rfl hne
    | tcnt0 => exact htcnt
    | ocr0 => exact hocr
    | _ => rfl
  | tccr2 =>
    obtain ⟨-, -, -, htcnt, hocr⟩ := s.t2.writeTccr_control d
    cases r' with
    | tccr2 => exact absurd rfl hne
    | tcnt2 => exact htcnt
    | ocr2 => exact hocr
    | _ => rfl
  | tccr1a =>
    obtain ⟨-, -, -, htcnt, hocrA, hocrB, hicr, htmp⟩ := s.t1.writeTccrA_other d
    cases r' with
    | tccr1a => exact absurd rfl hne
    | tccr1b => exact s.t1.readTccrB_writeTccrA d
    | tcnt1l => exact congrArg loByte htcnt
    | ocr1al => exact congrArg loByte hocrA
    | ocr1ah => exact congrArg hiByte hocrA
    | ocr1bl => exact congrArg loByte hocrB
    | ocr1bh => exact congrArg hiByte hocrB
    | icr1l => exact congrArg loByte hicr
    | tcnt1h | icr1h => exact htmp
    | _ => rfl
  | tccr1b =>
    obtain ⟨-, -, htcnt, hocrA, hocrB, hicr, htmp⟩ := s.t1.writeTccrB_other d
    cases r' with
    | tccr1b => exact absurd rfl hne
    | tccr1a => exact s.t1.readTccrA_writeTccrB d
    | tcnt1l => exact congrArg loByte htcnt
    | ocr1al => exact congrArg loByte hocrA
    | ocr1ah => exact congrArg hiByte hocrA
    | ocr1bl => exact congrArg loByte hocrB
    | ocr1bh => exact congrArg hiByte hocrB
    | icr1l => exact congrArg loByte hicr
    | tcnt1h | icr1h => exact htmp
    | _ => rfl
  | icr1l =>
    have heffect : s.writeEffect d .icr1l = { s with t1 := _ } := congrArg ({ s with t1 := · }) (s.t1.writeIcrL_eq d)
    rw [heffect]
    cases r' with
    | icr1l => exact absurd rfl hne
    | _ => rfl
  | tcnt1h | ocr1ah | ocr1bh | icr1h =>
    cases r' with
    | tcnt1h | icr1h => exact absurd ⟨by decide, by decide⟩ htemp
    | _ => rfl
  | ocr1al =>
    cases r' with
    | ocr1al => exact absurd rfl hne
    | ocr1ah => exact absurd ⟨rfl, rfl⟩ hA
    | _ => rfl
  | ocr1bl =>
    cases r' with
    | ocr1bl => exact absurd rfl hne
    | ocr1bh => exact absurd ⟨rfl, rfl⟩ hB
    | _ => rfl
  | tcnt0 | ocr0 | tcnt2 | ocr2 | assr | tcnt1l | timsk | tifr | sfior =>
    cases r' <;> first | rfl | exact absurd rfl hne

/-- Settles O24: the writes' effects, register by register. -/
theorem writesLeaveOtherRegisters : Obligations.WritesLeaveOtherRegisters := by
  intro s t r r' d h hne htemp hA hB
  rw [(readValue_of_write h r').1]
  exact readValue_writeEffect s d hne htemp hA hB

end Sys2Proof.Machine
end

section
/-! PROOFS. What CLK does whatever the timers do, when it completes, TOP, and the output pins (spec 41_counter_unit.md
R230 to R249, R262): O26, O28, O30 and O42. -/

namespace Sys2Proof.Machine

/-! ### When CLK completes (R249) -/

theorem forall_timer8Id {p : Timer8Id → Prop} : (∀ n, p n) ↔ p .t0 ∧ p .t2 :=
  ⟨fun h => ⟨h .t0, h .t2⟩, fun ⟨h0, h2⟩ n => by
    cases n with
    | t0 => exact h0
    | t2 => exact h2⟩

theorem Timer8.refusals_eq_nil {n : Timer8Id} {t : Timer8} :
    t.refusals n = [] ↔ ¬((t.wgm = 1#2 ∨ t.wgm = 3#2) ∧ t.com = 1#2) := by
  rw [Timer8.refusals_eq, ite_eq_right_iff]
  exact imp_congr_right fun _ => by simp

theorem Timer1.refusals_eq_nil {t : Timer1} :
    t.refusals = [] ↔
      t.wgm ≠ 13#4 ∧
      (t.wgm ∈ [1#4, 2#4, 3#4, 8#4, 9#4, 10#4, 11#4] → t.tcnt.toNat ≤ t.top.toNat) ∧
      (t.wgm ∈ [8#4, 9#4, 10#4, 11#4, 14#4, 15#4] → 3 ≤ t.top.toNat) := by
  simp only [Timer1.refusals, List.append_eq_nil_iff, ite_eq_right_iff, imp_false, beq_iff_eq,
    Bool.and_eq_true, decide_eq_true_eq, class1_dualSlope_iff, variableTopPwm_iff, not_and, not_lt, and_assoc, ne_eq,
    List.cons_ne_nil]

/-- Nothing is refused exactly when no timer that ticks is in one of the refused states. -/
theorem clockRefusals_eq_nil {s : State} :
    clockRefusals s = [] ↔
      (∀ n, s.ticks8 n = true → ¬(((s.timer8 n).wgm = 1#2 ∨ (s.timer8 n).wgm = 3#2) ∧ (s.timer8 n).com = 1#2)) ∧
      (tick1 s = true → s.t1.wgm ≠ 13#4 ∧
        (s.t1.wgm ∈ [1#4, 2#4, 3#4, 8#4, 9#4, 10#4, 11#4] → s.t1.tcnt.toNat ≤ s.t1.top.toNat) ∧
        (s.t1.wgm ∈ [8#4, 9#4, 10#4, 11#4, 14#4, 15#4] → 3 ≤ s.t1.top.toNat)) := by
  rw [clockRefusals_nil, forall_timer8Id, ← Timer1.refusals_eq_nil, Timer8.refusals_eq_nil, Timer8.refusals_eq_nil,
    and_right_comm, and_assoc]
  rfl

/-- Settles O26: CLK completes exactly when nothing is refused. -/
theorem clkCompletes : Obligations.ClkCompletes := fun s =>
  ⟨fun ⟨_, h⟩ => clockRefusals_eq_nil.mp (exec_clk_next.mp h).1,
    fun h => ⟨clocked s, exec_clk_next.mpr ⟨clockRefusals_eq_nil.mpr h, rfl⟩⟩⟩

/-! ### The flags of each timer (R246, R247) -/

theorem clocked_flag_ovf8 (s : State) (n : Timer8Id) :
    (clocked s).flag (delaySource n) = (s.flag (delaySource n) || s.ticks8 n && (s.timer8 n).countStep.ovf) := by
  cases n <;>
    simp [clocked_flag, delaySource, timerOf8, ovfSource, Timer8.stepFlags0, Timer1.stepFlags, Timer8.stepFlags2,
      getLsbD_flags0, getLsbD_flags1, getLsbD_flags2, State.ticks8, State.timer8]

theorem clocked_flag_comp8 (s : State) (n : Timer8Id) :
    (clocked s).flag (cmpSource (timerOf8 n) .a) =
      (s.flag (cmpSource (timerOf8 n) .a) || s.ticks8 n && (s.timer8 n).matched) := by
  cases n <;>
    simp [clocked_flag, timerOf8, cmpSource, Timer8.stepFlags0, Timer1.stepFlags, Timer8.stepFlags2,
      getLsbD_flags0, getLsbD_flags1, getLsbD_flags2, State.ticks8, State.timer8]

theorem clocked_flag_t1Ovf (s : State) :
    (clocked s).flag .t1Ovf = (s.flag .t1Ovf || tick1 s && (captureFrontEnd s).t1.countStep.ovf) := by
  simp [clocked_flag, Timer8.stepFlags0, Timer1.stepFlags, Timer8.stepFlags2, getLsbD_flags0, getLsbD_flags1,
    getLsbD_flags2]

/-- The front end does not touch what the compare units look at. -/
theorem clocked_flag_t1CompA (s : State) :
    (clocked s).flag .t1CompA = (s.flag .t1CompA || tick1 s && s.t1.matchedA) := by
  have hmatched : (captureFrontEnd s).t1.matchedA = s.t1.matchedA := by rw [captureFrontEnd_t1]; rfl
  simp [clocked_flag, Timer8.stepFlags0, Timer1.stepFlags, Timer8.stepFlags2, getLsbD_flags0, getLsbD_flags1,
    getLsbD_flags2, hmatched]

theorem clocked_flag_t1CompB (s : State) :
    (clocked s).flag .t1CompB = (s.flag .t1CompB || tick1 s && s.t1.matchedB) := by
  have hmatched : (captureFrontEnd s).t1.matchedB = s.t1.matchedB := by rw [captureFrontEnd_t1]; rfl
  simp [clocked_flag, Timer8.stepFlags0, Timer1.stepFlags, Timer8.stepFlags2, getLsbD_flags0, getLsbD_flags1,
    getLsbD_flags2, hmatched]

/-! ### The frame of CLK -/

theorem toNat_add_one (p : BitVec 10) : (p + 1#10).toNat = (p.toNat + 1) % 1024 := by
  simp [BitVec.toNat_add]

/-- CLK clears no flag. -/
theorem tifr_and_clocked (s : State) : s.tifr &&& (clocked s).tifr = s.tifr := by
  have htifr : (clocked s).tifr = s.tifr ||| flagIf .t1Capt s.captures |||
      (if tick0 s then s.t0.stepFlags0 else 0#8) ||| (if tick1 s then (captureFrontEnd s).t1.stepFlags else 0#8) |||
      (if tick2 s then s.t2.stepFlags2 else 0#8) := rfl
  rw [htifr]
  refine BitVec.eq_of_getLsbD_eq fun i _ => ?_
  simp only [BitVec.getLsbD_and, BitVec.getLsbD_or]
  cases s.tifr.getLsbD i <;> simp

theorem clocked_timer8_of_not_ticks {s : State} {n : Timer8Id} (h : s.ticks8 n = false) :
    (clocked s).timer8 n = s.timer8 n := by
  rw [clocked_timer8, h]
  rfl

theorem clocked_timer8_control (s : State) (n : Timer8Id) :
    ((clocked s).timer8 n).wgm = (s.timer8 n).wgm ∧ ((clocked s).timer8 n).com = (s.timer8 n).com ∧
      ((clocked s).timer8 n).cs = (s.timer8 n).cs ∧ ((clocked s).timer8 n).ocrBuf = (s.timer8 n).ocrBuf := by
  rw [clocked_timer8]
  split <;> exact ⟨rfl, rfl, rfl, rfl⟩

theorem clocked_t1_of_not_tick {s : State} (h : tick1 s = false) :
    (clocked s).t1 = { s.t1 with icr := (clocked s).t1.icr } := by
  have ht1 : (clocked s).t1 = (captureFrontEnd s).t1 := by
    rw [clocked_t1, h]
    rfl
  rw [ht1]
  exact captureFrontEnd_t1 s

/-- Settles O28: field by field; a flag of a timer that does not tick is set by nothing. -/
theorem clkFrame : Obligations.ClkFrame := by
  intro s t h
  obtain ⟨-, rfl⟩ := exec_clk_next.mp h
  obtain ⟨hwgm, hcomA, hcomB, hcs, hicnc, hices, hocrA, hocrB, htemp⟩ := clocked_t1_control s
  refine ⟨toNat_add_one s.p01, toNat_add_one s.p2, rfl, rfl, tifr_and_clocked s, fun n hn => ?timer8,
    fun h1 => ⟨clocked_t1_of_not_tick h1, ?flags1⟩, clocked_timer8_control s, hwgm, hcomA, hcomB, hcs, hicnc, hices,
    hocrA, hocrB, htemp, rfl⟩
  case timer8 =>
    exact ⟨clocked_timer8_of_not_ticks hn, by simp [clocked_flag_ovf8, hn], by simp [clocked_flag_comp8, hn]⟩
  case flags1 =>
    simp [clocked_flag_t1Ovf, clocked_flag_t1CompA, clocked_flag_t1CompB, h1]

/-! ### TOP (R110, R111, R240) -/

theorem mode8_cases (wgm : BitVec 2) : wgm = 0#2 ∨ wgm = 1#2 ∨ wgm = 2#2 ∨ wgm = 3#2 := by
  decide +revert

theorem Timer8.top_eq (t : Timer8) : t.top = if t.wgm = 2#2 then t.ocrAct else 0xFF#8 := by
  obtain h | h | h | h := mode8_cases t.wgm <;> simp [Timer8.top, class8, h]

/-- Settles O30: mode by mode. -/
theorem topOfEveryMode : Obligations.TopOfEveryMode := by
  refine ⟨fun t => ⟨fun h => ?_, fun h => ?_⟩, fun t => ⟨fun h => ?_, fun h => ?_, fun h => ?_, fun h => ?_, fun h => ?_,
    fun h => ?_⟩⟩
  · rw [Timer8.top_eq, if_pos h]
  · rw [Timer8.top_eq, if_neg h]
  · simp [Timer1.top, h]
  · obtain h | h := h <;> simp [Timer1.top, h]
  · obtain h | h := h <;> simp [Timer1.top, h]
  · obtain h | h := h <;> simp [Timer1.top, h]
  · simp only [List.mem_cons, List.not_mem_nil, or_false] at h
    obtain h | h | h | h := h <;> simp [Timer1.top, h]
  · simp only [List.mem_cons, List.not_mem_nil, or_false] at h
    obtain h | h | h | h := h <;> simp [Timer1.top, h]

/-! ### The output pins (R262, R264) -/

/-- An 8-bit timer's unit where its drive is defined. -/
theorem Timer8.drive_eq (n : Timer8Id) (p : BitVec 10) {t : Timer8} (h : t.com ≠ 1#2 ∨ t.wgm = 0#2 ∨ t.wgm = 2#2) :
    t.drive n p = if t.com = 0#2 then none else some t.oc := by
  have hconnected : disconnectedToggle (class8 t.wgm) t.com false = false := by
    generalize t.wgm = wgm, t.com = com at h
    decide +revert
  simp [Timer8.drive, hconnected, unitDrive]

theorem unitDrive_a (wgm : BitVec 4) (com : BitVec 2) (oc : Bool) :
    unitDrive (class1 wgm) com (toggleCase wgm) oc =
      if com = 0#2 ∨ (com = 1#2 ∧ wgm ∈ [1#4, 2#4, 3#4, 5#4, 6#4, 7#4, 8#4, 10#4, 14#4]) then none else some oc := by
  decide +revert

theorem unitDrive_b (wgm : BitVec 4) (com : BitVec 2) (oc : Bool) :
    unitDrive (class1 wgm) com false oc =
      if com = 0#2 ∨ (com = 1#2 ∧ wgm ∉ [0#4, 4#4, 12#4, 13#4]) then none else some oc := by
  decide +revert

/-- Settles O42: unit by unit, Timer1's over all modes. -/
theorem outputDrive : Obligations.OutputDrive := fun _ =>
  ⟨Timer8.drive_eq .t0 _, Timer8.drive_eq .t2 _, unitDrive_a _ _ _, unitDrive_b _ _ _⟩

end Sys2Proof.Machine
end

section
/-! PROOFS. One tick of Timer0 or Timer2 in every mode (spec 41_counter_unit.md R238 to R263): O31, O32 and O33. Each
class's counting and waveform rule is said once, over numbers and Booleans, for the 8-bit and the 16-bit timers. -/

namespace Sys2Proof.Machine

/-! ### Counting and waveform, class by class -/

theorem toNat_beq {w : Nat} (x y : BitVec w) : (x.toNat == y.toNat) = (x == y) := by
  rw [Bool.eq_iff_iff, beq_iff_eq, beq_iff_eq, BitVec.toNat_inj]

/-- FAST wraps at TOP and at MAX (R243). -/
theorem countFast_eq (max top c : Nat) (d : Dir) (wrap : Bool) (hw : wrap = (c == top || c == max)) :
    countFast max top c d = ⟨if wrap then 0 else c + 1, d, wrap, wrap, c == top, false⟩ := by
  subst hw
  simp [countFast]

/-- The dual-slope classes turn at TOP and at BOTTOM (R242). -/
theorem countDual_eq (top c : Nat) (d : Dir) (atTop atBottom up : Bool) (hT : atTop = (d == .up && c == top))
    (hB : atBottom = (d == .down && c == 0)) (hup : up = ((d == .up && !atTop) || atBottom)) :
    countDual top c d =
      ⟨if up then c + 1 else c - 1, if up then .up else .down, false, atBottom, atTop, atBottom⟩ := by
  subst hT hB hup
  cases d with
  | up => by_cases hc : c = top <;> simp [countDual, hc]
  | down => by_cases hc : c = 0 <;> simp [countDual, hc]

/-- The direction of a dual-slope tick is that of the count. -/
theorem tickUp_dual {c : Nat} {up ovf atTop atBottom : Bool} {d : Dir} :
    tickUp c ⟨if up then c + 1 else c - 1, d, false, ovf, atTop, atBottom⟩ = up := by
  cases up <;> simp [tickUp]

theorem matchAction_eq (com : BitVec 2) (oc : Bool) : matchAction com oc = actOn com oc := by
  decide +revert

/-- FAST: the action at the wrap comes after the match action (R261). -/
theorem waveFast_eq (com : BitVec 2) (toggles m wrap oc : Bool) :
    waveFast com toggles m wrap oc =
      if com = 2#2 then (wrap || (oc && !m)) else if com = 3#2 then (!wrap && (oc || m))
      else if com = 1#2 ∧ toggles = true then (oc ^^ m) else oc := by
  decide +revert

/-- PC and PFC: a match sets or clears by the direction (R263). -/
theorem waveDual_eq (com : BitVec 2) (toggles m up oc : Bool) :
    waveDual com toggles m up oc =
      if m = false ∨ com = 0#2 then oc else if com = 2#2 then !up else if com = 3#2 then up
      else if toggles = true then !oc else oc := by
  decide +revert

/-! ### A step of an 8-bit timer -/

theorem Timer8.step_blk (t : Timer8) : t.step.blk = false := rfl

theorem Timer8.step_dir (t : Timer8) : t.step.dir = t.countStep.dir := rfl

theorem Timer8.step_tcnt (t : Timer8) : t.step.tcnt.toNat = t.countStep.next % 256 := BitVec.toNat_ofNat _ _

theorem Timer8.step_ocrAct (t : Timer8) :
    t.step.ocrAct = if updatePoint (class8 t.wgm) t.countStep then t.ocrBuf else t.ocrAct := rfl

theorem Timer8.step_oc (t : Timer8) :
    t.step.oc = wave (class8 t.wgm) t.com false t.matched t.countStep.wrap (tickUp t.tcnt.toNat t.countStep) t.oc := rfl

theorem Timer8.matched_iff (t : Timer8) : t.matched = true ↔ t.blk = false ∧ t.tcnt = t.ocrAct := by
  simp [Timer8.matched]

theorem class8_normal_or_ctc {wgm : BitVec 2} (h : wgm = 0#2 ∨ wgm = 2#2) :
    class8 wgm = .normal ∨ class8 wgm = .ctc := by
  decide +revert

theorem Timer8.countStep_normal {t : Timer8} (h : t.wgm = 0#2) :
    t.countStep = countNormal 255 255 t.tcnt.toNat t.dir := by
  simp [Timer8.countStep, Timer8.top_eq, h, class8, count]

theorem Timer8.countStep_ctc {t : Timer8} (h : t.wgm = 2#2) :
    t.countStep = countCtc 255 t.ocrAct.toNat t.tcnt.toNat t.dir := by
  simp [Timer8.countStep, Timer8.top_eq, h, class8, count]

theorem Timer8.countStep_fast {t : Timer8} (h : t.wgm = 3#2) (wrap : Bool) (hw : wrap = (t.tcnt == 0xFF#8)) :
    t.countStep = ⟨if wrap then 0 else t.tcnt.toNat + 1, t.dir, wrap, wrap, wrap, false⟩ := by
  have hc : (t.tcnt.toNat == 255) = wrap := hw ▸ toNat_beq t.tcnt 0xFF#8
  have hcount : t.countStep = countFast 255 255 t.tcnt.toNat t.dir := by
    simp [Timer8.countStep, Timer8.top_eq, h, class8, count]
  rw [hcount, countFast_eq 255 255 _ _ wrap (by rw [hc, Bool.or_self]), hc]

theorem Timer8.countStep_dual {t : Timer8} (h : t.wgm = 1#2) (atTop atBottom up : Bool)
    (hT : atTop = (t.dir == .up && t.tcnt == 0xFF#8)) (hB : atBottom = (t.dir == .down && t.tcnt == 0#8))
    (hup : up = ((t.dir == .up && !atTop) || atBottom)) :
    t.countStep = ⟨if up then t.tcnt.toNat + 1 else t.tcnt.toNat - 1, if up then .up else .down, false, atBottom,
      atTop, atBottom⟩ := by
  have hcount : t.countStep = countDual 255 t.tcnt.toNat t.dir := by
    simp [Timer8.countStep, Timer8.top_eq, h, class8, count]
  rw [hcount]
  exact countDual_eq _ _ _ atTop atBottom up (by rw [hT, ← toNat_beq]; rfl) (by rw [hB, ← toNat_beq]; rfl) hup

/-- A tick of Timer0 or Timer2 is a step of that timer. -/
theorem clocked_timer8_of_ticks {s : State} {n : Timer8Id} (h : s.ticks8 n = true) :
    (clocked s).timer8 n = (s.timer8 n).step := by
  rw [clocked_timer8, if_pos h]

/-! ### Normal mode and CTC -/

/-- What Normal mode and CTC have in common, on the timer itself. -/
theorem Timer8.step_normal_or_ctc {t : Timer8} (h : t.wgm = 0#2 ∨ t.wgm = 2#2) :
    t.countStep.ovf = (t.tcnt == 0xFF#8) ∧ t.step.dir = t.dir ∧ t.step.ocrAct = t.ocrAct ∧
      t.step.oc = if t.blk = false ∧ t.tcnt = t.ocrAct then actOn t.com t.oc else t.oc := by
  have hwave : t.step.oc = if t.matched then matchAction t.com t.oc else t.oc := by
    rw [Timer8.step_oc]
    obtain hcls | hcls := class8_normal_or_ctc h <;> rw [hcls] <;> rfl
  have hact : t.step.ocrAct = t.ocrAct := by
    rw [Timer8.step_ocrAct, updatePoint_of_unbuffered ((class8_unbuffered_iff _).mpr h)]
    rfl
  rw [hwave, hact, matchAction_eq, if_congr t.matched_iff rfl rfl, Timer8.step_dir]
  have hmax : (t.tcnt.toNat == 255) = (t.tcnt == 0xFF#8) := toNat_beq t.tcnt 0xFF#8
  obtain h | h := h
  · rw [Timer8.countStep_normal h]
    exact ⟨hmax, rfl, rfl, rfl⟩
  · rw [Timer8.countStep_ctc h]
    exact ⟨hmax, rfl, rfl, rfl⟩

/-- Settles O31: the count of each of the two modes, and what they have in common. -/
theorem normalAndCtcTickOfTimer8 : Obligations.NormalAndCtcTickOfTimer8 := by
  intro n s t hclk htick
  obtain ⟨-, rfl⟩ := exec_clk_next.mp hclk
  rw [clocked_flag_ovf8, clocked_flag_comp8, clocked_timer8_of_ticks htick, htick, Bool.true_and, Bool.true_and]
  refine ⟨fun h => ?normal, fun h => ?ctc, fun h => ?common⟩
  case normal =>
    rw [Timer8.step_tcnt, Timer8.countStep_normal h]
    exact Nat.mod_mod _ _
  case ctc =>
    rw [Timer8.step_tcnt, Timer8.countStep_ctc h]
    simp only [countCtc, BitVec.toNat_inj]
    split
    · rfl
    · exact Nat.mod_mod _ _
  case common =>
    obtain ⟨hovf, hdir, hact, hoc⟩ := Timer8.step_normal_or_ctc h
    rw [hovf, hdir, hact, hoc]
    exact ⟨rfl, rfl, rfl, rfl, rfl, rfl⟩

/-! ### Fast PWM -/

/-- A tick that is not refused, in a PWM mode, has a COM other than the reserved 01 (R249). -/
theorem com_ne_of_clk {s t : State} {n : Timer8Id} (hclk : exec .clk s = .next t) (htick : s.ticks8 n = true)
    (h : (s.timer8 n).wgm = 1#2 ∨ (s.timer8 n).wgm = 3#2) : (s.timer8 n).com ≠ 1#2 :=
  fun hcom => (clockRefusals_eq_nil.mp (exec_clk_next.mp hclk).1).1 n htick ⟨h, hcom⟩

/-- A step in Fast PWM, by whether the counter wraps. -/
theorem Timer8.step_fast {t : Timer8} (h : t.wgm = 3#2) (wrap : Bool) (hw : wrap = (t.tcnt == 0xFF#8)) :
    t.step.tcnt.toNat = (if wrap then 0 else t.tcnt.toNat + 1) ∧ t.step.dir = t.dir ∧
      t.step.ocrAct = (if wrap then t.ocrBuf else t.ocrAct) ∧
      t.step.oc = (if t.com = 2#2 then (wrap || (t.oc && !t.matched))
        else if t.com = 3#2 then (!wrap && (t.oc || t.matched)) else t.oc) := by
  have hcount := Timer8.countStep_fast h wrap hw
  rw [Timer8.step_tcnt, Timer8.step_dir, Timer8.step_ocrAct, Timer8.step_oc, hcount]
  have hcls : class8 t.wgm = .fast := by rw [h]; rfl
  rw [hcls]
  refine ⟨?_, rfl, rfl, (waveFast_eq _ _ _ _ _).trans (by simp)⟩
  subst hw
  by_cases hc : t.tcnt = 0xFF#8
  · simp [hc]
  · have hlt : t.tcnt.toNat ≠ 255 := fun e => hc (BitVec.eq_of_toNat_eq e)
    simp only [beq_iff_eq, hc, if_false]
    omega

/-- Settles O32: the step by its wrap, and the flags by `Timer8.countStep_fast`. -/
theorem fastPwmTickOfTimer8 : Obligations.FastPwmTickOfTimer8 := by
  intro n s t hclk htick hmode
  have hcom := com_ne_of_clk hclk htick (.inr hmode)
  obtain ⟨-, rfl⟩ := exec_clk_next.mp hclk
  obtain ⟨htcnt, hdir, hact, hoc⟩ := Timer8.step_fast hmode _ rfl
  rw [clocked_flag_ovf8, clocked_flag_comp8, clocked_timer8_of_ticks htick, htick, Bool.true_and, Bool.true_and,
    Timer8.countStep_fast hmode _ rfl, htcnt, hdir, hact, hoc]
  refine ⟨by simp, rfl, rfl, rfl, hcom, fun h => ?none, fun h => ?clear, fun h => ?set, by simp, rfl⟩
  case none => simp [h]
  case clear =>
    rw [if_pos h, ← if_congr (Timer8.matched_iff _) rfl rfl]
    by_cases hwrap : (s.timer8 n).tcnt = 0xFF#8 <;> cases (s.timer8 n).matched <;> simp [hwrap]
  case set =>
    rw [if_neg (by simp [h]), if_pos h, ← if_congr (Timer8.matched_iff _) rfl rfl]
    by_cases hwrap : (s.timer8 n).tcnt = 0xFF#8 <;> cases (s.timer8 n).matched <;> simp [hwrap]

/-! ### Phase-correct PWM -/

/-- A step in phase-correct PWM, by its direction. -/
theorem Timer8.step_dual {t : Timer8} (h : t.wgm = 1#2) (atTop atBottom up : Bool)
    (hT : atTop = (t.dir == .up && t.tcnt == 0xFF#8)) (hB : atBottom = (t.dir == .down && t.tcnt == 0#8))
    (hup : up = ((t.dir == .up && !atTop) || atBottom)) :
    t.step.tcnt.toNat = (if up then t.tcnt.toNat + 1 else t.tcnt.toNat - 1) ∧
      t.step.dir = (if up then .up else .down) ∧ t.step.ocrAct = (if atTop then t.ocrBuf else t.ocrAct) ∧
      t.step.oc = (if t.matched = false ∨ t.com = 0#2 then t.oc else if t.com = 2#2 then !up
        else if t.com = 3#2 then up else t.oc) := by
  have hcount := Timer8.countStep_dual h atTop atBottom up hT hB hup
  rw [Timer8.step_tcnt, Timer8.step_dir, Timer8.step_ocrAct, Timer8.step_oc, hcount, tickUp_dual]
  have hcls : class8 t.wgm = .pc := by rw [h]; rfl
  rw [hcls]
  refine ⟨?_, rfl, rfl, (waveDual_eq _ _ _ _ _).trans (by simp)⟩
  have hmax : up = true → t.tcnt.toNat ≠ 255 := by
    subst hT hB hup
    intro hu hc
    obtain hc : t.tcnt = 0xFF#8 := BitVec.eq_of_toNat_eq hc
    cases hd : t.dir <;> simp [hd, hc] at hu
  have hlt := t.tcnt.isLt
  cases up with
  | true =>
    have hne := hmax rfl
    exact Nat.mod_eq_of_lt (show t.tcnt.toNat + 1 < 256 by omega)
  | false => exact Nat.mod_eq_of_lt (show t.tcnt.toNat - 1 < 256 by omega)

/-- Counting down, the count is not yet at BOTTOM. -/
theorem Timer8.tcnt_pos_of_falls {t : Timer8}
    (hup : ((t.dir == .up && !(t.dir == .up && t.tcnt == 0xFF#8)) || (t.dir == .down && t.tcnt == 0#8)) = false) :
    0 < t.tcnt.toNat := by
  refine Nat.pos_of_ne_zero fun hc => ?_
  obtain hc : t.tcnt = 0#8 := BitVec.eq_of_toNat_eq hc
  cases hd : t.dir <;> simp [hd, hc] at hup

/-- Settles O33: the four cases of the direction and the count, and the flags by `Timer8.countStep_dual`. -/
theorem phaseCorrectTickOfTimer8 : Obligations.PhaseCorrectTickOfTimer8 := by
  intro n s t hclk htick hmode
  have hcom := com_ne_of_clk hclk htick (.inl hmode)
  obtain ⟨-, rfl⟩ := exec_clk_next.mp hclk
  obtain ⟨htcnt, hdir, hact, hoc⟩ := Timer8.step_dual hmode _ _ _ rfl rfl rfl
  rw [clocked_flag_ovf8, clocked_flag_comp8, clocked_timer8_of_ticks htick, htick, Bool.true_and, Bool.true_and,
    Timer8.countStep_dual hmode _ _ _ rfl rfl rfl, hdir, hact]
  generalize s.timer8 n = x at *
  refine ⟨fun hd hc => ?leavesTop, fun hd hc => ?rises, fun hd hc => ?leavesBottom, fun hd hc => ?falls, rfl, rfl, hcom,
    fun h => ?noAction, fun hblk hmatch => ?action, rfl⟩
  case leavesTop =>
    exact ⟨BitVec.eq_of_toNat_eq (htcnt.trans (by simp [hd, hc])), by simp [hd, hc], by simp [hd, hc]⟩
  case rises => exact ⟨htcnt.trans (by simp [hd, hc]), by simp [hd, hc], by simp [hc]⟩
  case leavesBottom =>
    exact ⟨BitVec.eq_of_toNat_eq (htcnt.trans (by simp [hd, hc])), by simp [hd, hc], by simp [hd]⟩
  case falls => exact ⟨htcnt.trans (by simp [hd, hc]), by simp [hd, hc], by simp [hd]⟩
  case noAction =>
    refine hoc.trans (if_pos ?_)
    rw [← Bool.not_eq_true, x.matched_iff]
    obtain h | h | h := h <;> simp [h]
  case action =>
    rw [x.matched_iff.mpr ⟨hblk, hmatch⟩] at hoc
    have hpos := x.tcnt_pos_of_falls
    rw [htcnt, hoc]
    generalize ((x.dir == .up && !(x.dir == .up && x.tcnt == 0xFF#8)) || (x.dir == .down && x.tcnt == 0#8)) = up
      at hpos ⊢
    refine ⟨fun h => ?_, fun h => ?_⟩
    · cases up with
      | true => simp [h]
      | false => simpa [h] using hpos rfl
    · cases up <;> simp [h]

end Sys2Proof.Machine
end

section
/-! PROOFS. One tick of Timer1 in every mode that ticks (spec 41_counter_unit.md R238 to R264): O34, O35 and O36. The
ICP1 front end comes before the step and changes nothing that the step looks at. -/

namespace Sys2Proof.Machine

/-! ### The front end and the step (R272) -/

theorem Timer1.top_withIcr {t : Timer1} (h : icrIsTop t.wgm = false) (x : Half) :
    ({ t with icr := x } : Timer1).top = t.top := by
  have hwgm := mt (icrIsTop_iff t.wgm).mpr (by simp [h])
  simp only [Timer1.top]
  split
  case h_9 heq | h_11 heq | h_13 heq | h_15 heq => exact absurd (by rw [opcode_eq heq]; decide) hwgm
  all_goals rfl

/-- No capture changes a TOP: where ICR1 is TOP nothing is captured. -/
theorem captureFrontEnd_top (s : State) : (captureFrontEnd s).t1.top = s.t1.top := by
  rw [captureFrontEnd_t1, captureFrontEnd_icr]
  cases hcap : s.captures with
  | true =>
    refine Timer1.top_withIcr ?_ _
    rw [← Bool.not_eq_true, icrIsTop_iff]
    exact (captures_iff.mp hcap).2.2
  | false => rfl

theorem captureFrontEnd_countStep (s : State) : (captureFrontEnd s).t1.countStep = s.t1.countStep := by
  rw [Timer1.countStep, captureFrontEnd_top, captureFrontEnd_t1]
  rfl

/-- A tick of Timer1 is a step of the timer the CLK starts with, and perhaps a capture. -/
theorem clocked_t1_of_tick {s : State} (h : tick1 s = true) :
    (clocked s).t1 = { s.t1.step with icr := (clocked s).t1.icr } := by
  have hstep : (captureFrontEnd s).t1.step = { s.t1.step with icr := (captureFrontEnd s).t1.icr } := by
    simp only [Timer1.step, captureFrontEnd_countStep]
    rw [captureFrontEnd_t1]
    rfl
  rw [clocked_t1, if_pos h, hstep]

/-! ### A step of Timer1 -/

theorem Timer1.step_tcnt (t : Timer1) : t.step.tcnt.toNat = t.countStep.next % 65536 := BitVec.toNat_ofNat _ _

theorem Timer1.step_ocrAct (t : Timer1) :
    t.step.ocrAAct = (if updatePoint (class1 t.wgm) t.countStep then t.ocrABuf else t.ocrAAct) ∧
      t.step.ocrBAct = if updatePoint (class1 t.wgm) t.countStep then t.ocrBBuf else t.ocrBAct := ⟨rfl, rfl⟩

theorem Timer1.step_oc (t : Timer1) :
    t.step.ocA = wave (class1 t.wgm) t.comA (toggleCase t.wgm) t.matchedA t.countStep.wrap
        (tickUp t.tcnt.toNat t.countStep) t.ocA ∧
      t.step.ocB = wave (class1 t.wgm) t.comB false t.matchedB t.countStep.wrap (tickUp t.tcnt.toNat t.countStep)
        t.ocB := ⟨rfl, rfl⟩

theorem Timer1.matchedA_iff (t : Timer1) : t.matchedA = true ↔ t.blk = false ∧ t.tcnt = t.ocrAAct := by
  simp [Timer1.matchedA]

theorem Timer1.matchedB_iff (t : Timer1) : t.matchedB = true ↔ t.blk = false ∧ t.tcnt = t.ocrBAct := by
  simp [Timer1.matchedB]

theorem Timer1.top_of_icrIsTop {t : Timer1} (h : t.wgm ∈ [8#4, 10#4, 12#4, 14#4]) : t.top = t.icr := by
  simp only [List.mem_cons, List.not_mem_nil, or_false] at h
  obtain h | h | h | h := h <;> simp [Timer1.top, h]

/-- ICF1 in the modes where ICR1 is TOP: nothing is captured, and a tick at TOP sets it (R248). -/
theorem clocked_flag_t1Capt_of_icrIsTop {s : State} (htick : tick1 s = true)
    (h : s.t1.wgm ∈ [8#4, 10#4, 12#4, 14#4]) :
    (clocked s).flag .t1Capt = (s.flag .t1Capt || s.t1.countStep.atTop) := by
  have hcap : s.captures = false := captures_eq_false_iff.mpr (.inr (.inr h))
  rw [clocked_flag_t1Capt, hcap, htick, captureFrontEnd_countStep, (icrIsTop_iff _).mpr h, Bool.or_false, Bool.true_and,
    Bool.and_true]

/-! ### Normal mode and CTC -/

theorem Timer1.countStep_normal {t : Timer1} (h : t.wgm = 0#4) :
    t.countStep = countNormal 65535 65535 t.tcnt.toNat t.dir := by
  simp [Timer1.countStep, Timer1.top, h, class1, count]

theorem class1_ctc {wgm : BitVec 4} (h : wgm ∈ [0#4, 4#4, 12#4]) (h0 : wgm ≠ 0#4) : class1 wgm = .ctc := by
  decide +revert

theorem Timer1.countStep_ctc {t : Timer1} (h : class1 t.wgm = .ctc) :
    t.countStep = countCtc 65535 t.top.toNat t.tcnt.toNat t.dir := by
  rw [Timer1.countStep, h, count]

/-- What Normal mode and CTC have in common, on the timer itself. -/
theorem Timer1.step_normal_or_ctc {t : Timer1} (h : t.wgm ∈ [0#4, 4#4, 12#4]) :
    t.countStep.ovf = (t.tcnt == 0xFFFF#16) ∧ t.step.dir = t.dir ∧
      t.step.ocrAAct = t.ocrAAct ∧ t.step.ocrBAct = t.ocrBAct ∧
      t.step.ocA = (if t.blk = false ∧ t.tcnt = t.ocrAAct then actOn t.comA t.ocA else t.ocA) ∧
      t.step.ocB = if t.blk = false ∧ t.tcnt = t.ocrBAct then actOn t.comB t.ocB else t.ocB := by
  have hmax : (t.tcnt.toNat == 65535) = (t.tcnt == 0xFFFF#16) := toNat_beq t.tcnt 0xFFFF#16
  obtain ⟨hactA, hactB⟩ := t.step_ocrAct
  obtain ⟨hocA, hocB⟩ := t.step_oc
  have hdir : t.step.dir = t.countStep.dir := rfl
  simp only [← t.matchedA_iff, ← t.matchedB_iff, ← matchAction_eq]
  rw [hactA, hactB, hocA, hocB, hdir]
  by_cases h0 : t.wgm = 0#4
  · have hcls : class1 t.wgm = .normal := by rw [h0]; rfl
    rw [hcls, Timer1.countStep_normal h0]
    exact ⟨hmax, rfl, rfl, rfl, rfl, rfl⟩
  · have hcls := class1_ctc h h0
    rw [Timer1.countStep_ctc hcls, hcls]
    exact ⟨hmax, rfl, rfl, rfl, rfl, rfl⟩

/-- Settles O34: the count of each of the two classes, and what they have in common. -/
theorem normalAndCtcTickOfTimer1 : Obligations.NormalAndCtcTickOfTimer1 := by
  intro s t hclk htick hmode
  obtain ⟨-, rfl⟩ := exec_clk_next.mp hclk
  obtain ⟨hovf, hdir, hactA, hactB, hocA, hocB⟩ := Timer1.step_normal_or_ctc hmode
  refine ⟨fun h => ?normal, fun h => ?ctc, ?ovf, ?compA, ?compB, fun h => ?capt, ?fields⟩
  case ovf => rw [clocked_flag_t1Ovf, htick, captureFrontEnd_countStep, hovf, Bool.true_and]
  case compA => rw [clocked_flag_t1CompA, htick, Bool.true_and, Timer1.matchedA]
  case compB => rw [clocked_flag_t1CompB, htick, Bool.true_and, Timer1.matchedB]
  case capt =>
    have hmem : s.t1.wgm ∈ [8#4, 10#4, 12#4, 14#4] := by rw [h]; decide
    rw [clocked_flag_t1Capt_of_icrIsTop htick hmem, Timer1.countStep_ctc (by rw [h]; rfl),
      ← Timer1.top_of_icrIsTop hmem, ← toNat_beq]
    rfl
  all_goals rw [clocked_t1_of_tick htick]
  case normal =>
    refine (Timer1.step_tcnt _).trans ?_
    rw [Timer1.countStep_normal h]
    exact Nat.mod_mod _ _
  case ctc =>
    refine (Timer1.step_tcnt _).trans ?_
    rw [Timer1.countStep_ctc (class1_ctc hmode h)]
    simp only [countCtc, BitVec.toNat_inj]
    split
    · rfl
    · exact Nat.mod_mod _ _
  case fields => exact ⟨hocA, hocB, hdir, hactA, hactB, rfl⟩

/-! ### Fast PWM -/

theorem class1_fast {wgm : BitVec 4} (h : wgm ∈ [5#4, 6#4, 7#4, 14#4, 15#4]) :
    class1 wgm = .fast ∧ (toggleCase wgm = true ↔ wgm = 15#4) := by
  decide +revert

theorem Timer1.countStep_fast {t : Timer1} (h : class1 t.wgm = .fast) :
    t.countStep = ⟨if t.tcnt == t.top || t.tcnt == 0xFFFF#16 then 0 else t.tcnt.toNat + 1, t.dir,
      t.tcnt == t.top || t.tcnt == 0xFFFF#16, t.tcnt == t.top || t.tcnt == 0xFFFF#16, t.tcnt == t.top, false⟩ := by
  have hmax : (t.tcnt.toNat == 65535) = (t.tcnt == 0xFFFF#16) := toNat_beq t.tcnt 0xFFFF#16
  rw [Timer1.countStep, h, count, countFast_eq _ _ _ _ (t.tcnt == t.top || t.tcnt == 0xFFFF#16)
    (by rw [toNat_beq, hmax]), toNat_beq]

/-- Settles O35: the rules of FAST, with the wrap as given. -/
theorem fastPwmTickOfTimer1 : Obligations.FastPwmTickOfTimer1 := by
  intro s t hclk htick hmode wrap hwrap mA mB hA hB
  obtain ⟨-, rfl⟩ := exec_clk_next.mp hclk
  obtain ⟨hcls, htoggle⟩ := class1_fast hmode
  have hcount := Timer1.countStep_fast hcls
  rw [← hwrap] at hcount
  obtain ⟨hactA, hactB⟩ := s.t1.step_ocrAct
  obtain ⟨hocA, hocB⟩ := s.t1.step_oc
  have hmA : s.t1.matchedA = mA := hA.symm
  have hmB : s.t1.matchedB = mB := hB.symm
  rw [hcls, hcount] at hactA hactB
  rw [hcls, hcount, hmA] at hocA
  rw [hcls, hcount, hmB] at hocB
  refine ⟨?tcnt, ?dir, ?blk, ?ovf, ?compA, ?compB, fun h => ?capt, ?actA, ?actB, ?ocA, ?ocB⟩
  case ovf => rw [clocked_flag_t1Ovf, htick, captureFrontEnd_countStep, hcount, Bool.true_and]
  case compA => rw [clocked_flag_t1CompA, htick, Bool.true_and, hmA]
  case compB => rw [clocked_flag_t1CompB, htick, Bool.true_and, hmB]
  case capt =>
    have hmem : s.t1.wgm ∈ [8#4, 10#4, 12#4, 14#4] := by rw [h]; decide
    rw [clocked_flag_t1Capt_of_icrIsTop htick hmem, hcount, ← Timer1.top_of_icrIsTop hmem]
  all_goals rw [clocked_t1_of_tick htick]
  case tcnt =>
    refine (Timer1.step_tcnt _).trans ?_
    rw [hcount]
    cases wrap with
    | true => rfl
    | false =>
      have hmax : s.t1.tcnt ≠ 0xFFFF#16 := fun hc => by simp [hc] at hwrap
      have hne : s.t1.tcnt.toNat ≠ 65535 := fun hc => hmax (BitVec.eq_of_toNat_eq hc)
      exact Nat.mod_eq_of_lt (show s.t1.tcnt.toNat + 1 < 65536 by omega)
  case dir => exact congrArg CountStep.dir hcount
  case blk => rfl
  case actA => exact hactA
  case actB => exact hactB
  case ocA => exact hocA.trans ((waveFast_eq _ _ _ _ _).trans (by simp only [htoggle]))
  case ocB => exact hocB.trans ((waveFast_eq _ _ _ _ _).trans (by simp))

/-! ### The dual-slope modes -/

theorem class1_dual {wgm : BitVec 4} (h : wgm ∈ [1#4, 2#4, 3#4, 8#4, 9#4, 10#4, 11#4]) :
    (class1 wgm = .pfc ∧ (wgm = 8#4 ∨ wgm = 9#4) ∨ class1 wgm = .pc ∧ ¬(wgm = 8#4 ∨ wgm = 9#4)) ∧
      (toggleCase wgm = true ↔ wgm = 9#4 ∨ wgm = 11#4) := by
  decide +revert

/-- PFC loads the buffers at BOTTOM, PC at TOP (R250); the counting and the waveform are the same. -/
theorem Timer1.step_dual {t : Timer1} (h : t.wgm ∈ [1#4, 2#4, 3#4, 8#4, 9#4, 10#4, 11#4]) (atTop atBottom up : Bool)
    (hT : atTop = (t.dir == .up && t.tcnt == t.top)) (hB : atBottom = (t.dir == .down && t.tcnt == 0#16))
    (hup : up = ((t.dir == .up && !atTop) || atBottom)) :
    t.countStep = ⟨if up then t.tcnt.toNat + 1 else t.tcnt.toNat - 1, if up then .up else .down, false, atBottom,
        atTop, atBottom⟩ ∧
      updatePoint (class1 t.wgm) t.countStep = (if t.wgm = 8#4 ∨ t.wgm = 9#4 then atBottom else atTop) ∧
      t.step.ocA = waveDual t.comA (toggleCase t.wgm) t.matchedA up t.ocA ∧
      t.step.ocB = waveDual t.comB false t.matchedB up t.ocB := by
  have hcount : t.countStep = ⟨if up then t.tcnt.toNat + 1 else t.tcnt.toNat - 1, if up then .up else .down, false,
      atBottom, atTop, atBottom⟩ := by
    have hdual : t.countStep = countDual t.top.toNat t.tcnt.toNat t.dir := by
      obtain ⟨⟨hcls, -⟩ | ⟨hcls, -⟩, -⟩ := class1_dual h <;> rw [Timer1.countStep, hcls] <;> rfl
    rw [hdual]
    exact countDual_eq _ _ _ atTop atBottom up (by rw [hT, ← toNat_beq]) (by rw [hB, ← toNat_beq]; rfl) hup
  obtain ⟨hocA, hocB⟩ := t.step_oc
  rw [hcount, tickUp_dual] at hocA hocB
  refine ⟨hcount, ?_⟩
  rw [hcount, hocA, hocB]
  obtain ⟨⟨hcls, hpfc⟩ | ⟨hcls, hpc⟩, -⟩ := class1_dual h <;> rw [hcls]
  · exact ⟨(if_pos hpfc).symm, rfl, rfl⟩
  · exact ⟨(if_neg hpc).symm, rfl, rfl⟩

/-- COM1B = 01 never acts (R264). -/
theorem waveDual_of_no_toggle (com : BitVec 2) (m up oc : Bool) :
    waveDual com false m up oc =
      if m = false ∨ com = 0#2 ∨ com = 1#2 then oc else if com = 2#2 then !up else up := by
  decide +revert

/-- A count that rises and is not above TOP is below 0xFFFF. -/
theorem ne_max_of_up {t : Timer1} {atTop atBottom : Bool} (hle : t.tcnt.toNat ≤ t.top.toNat)
    (hT : atTop = (t.dir == .up && t.tcnt == t.top)) (hB : atBottom = (t.dir == .down && t.tcnt == 0#16))
    (hup : true = ((t.dir == .up && !atTop) || atBottom)) : t.tcnt.toNat ≠ 65535 := by
  intro hc
  have htop : t.top = t.tcnt := BitVec.eq_of_toNat_eq (by have := t.top.isLt; omega)
  have hmax : t.tcnt = 0xFFFF#16 := BitVec.eq_of_toNat_eq hc
  rw [htop, hmax] at hT
  rw [hmax] at hB
  subst hT hB
  cases hd : t.dir <;> simp [hd] at hup

/-- Settles O36: the rules of PC and PFC, with the turning points as given; a count above TOP is refused. -/
theorem dualSlopeTickOfTimer1 : Obligations.DualSlopeTickOfTimer1 := by
  intro s t hclk htick hmode atTop atBottom up load hT hB hup hload mA mB hA hB'
  obtain ⟨hok, rfl⟩ := exec_clk_next.mp hclk
  have hle : s.t1.tcnt.toNat ≤ s.t1.top.toNat := ((clockRefusals_eq_nil.mp hok).2 htick).2.1 hmode
  obtain ⟨hcount, hupdate, hocA, hocB⟩ := Timer1.step_dual hmode atTop atBottom up hT hB hup
  obtain ⟨-, htoggle⟩ := class1_dual hmode
  obtain ⟨hactA, hactB⟩ := s.t1.step_ocrAct
  have hmA : s.t1.matchedA = mA := hA.symm
  have hmB : s.t1.matchedB = mB := hB'.symm
  rw [hupdate, ← hload] at hactA hactB
  rw [hmA] at hocA
  rw [hmB] at hocB
  refine ⟨hle, ?tcnt, ?dir, ?blk, ?ovf, ?compA, ?compB, fun h => ?capt, ?actA, ?actB, ?ocA, ?ocB⟩
  case ovf => rw [clocked_flag_t1Ovf, htick, captureFrontEnd_countStep, hcount, Bool.true_and]
  case compA => rw [clocked_flag_t1CompA, htick, Bool.true_and, hmA]
  case compB => rw [clocked_flag_t1CompB, htick, Bool.true_and, hmB]
  case capt =>
    have hmem : s.t1.wgm ∈ [8#4, 10#4, 12#4, 14#4] := by obtain h | h := h <;> rw [h] <;> decide
    rw [clocked_flag_t1Capt_of_icrIsTop htick hmem, hcount]
  all_goals rw [clocked_t1_of_tick htick]
  case tcnt =>
    refine (Timer1.step_tcnt _).trans ?_
    rw [hcount]
    have htop := s.t1.top.isLt
    cases up with
    | true =>
      have hne := ne_max_of_up hle hT hB hup
      exact Nat.mod_eq_of_lt (show s.t1.tcnt.toNat + 1 < 65536 by omega)
    | false => exact Nat.mod_eq_of_lt (show s.t1.tcnt.toNat - 1 < 65536 by omega)
  case dir => exact congrArg CountStep.dir hcount
  case blk => rfl
  case actA => exact hactA
  case actB => exact hactB
  case ocA => exact hocA.trans ((waveDual_eq _ _ _ _ _).trans (by simp only [htoggle]))
  case ocB => exact hocB.trans (waveDual_of_no_toggle _ _ _ _)

end Sys2Proof.Machine
end

section
/-! PROOFS. Sequences of CLKs (spec 41_counter_unit.md R233 to R271, 70_reset_and_hazards.md R441): O13, O38, O39, O40 and
O41. Each names what holds after j CLKs and shows that one more CLK takes it to j + 1. -/

namespace Sys2Proof.Machine

/-! ### CLKs after reset (R441) -/

/-- What holds j CLKs after a reset with draw d. -/
structure IdleAfterReset (d : Draw) (j : Nat) (s : State) : Prop where
  t0 : s.t0 = Timer8.reset
  t1 : s.t1 = Timer1.resetWith d.temp
  t2 : s.t2 = Timer8.reset
  p01 : s.p01.toNat = j % 1024
  p2 : s.p2.toNat = j % 1024
  tifr : s.tifr = 0#8 ∨ s.tifr = 0x20#8
  noEdge : d.icpFilt = false ∨ d.icpPin = true → s.tifr = 0#8 ∧ (s.icpFilt = false ∨ s.icpPin = true)
  timsk : s.timsk = 0#8
  gie : s.gie = false
  isr : s.isr = []

theorem IdleAfterReset.no_tick {d : Draw} {j : Nat} {s : State} (h : IdleAfterReset d j s) :
    tick0 s = false ∧ tick1 s = false ∧ tick2 s = false := by
  refine ⟨ticks8_of_stopped (n := .t0) ?_, tick1_of_stopped ?_, ticks8_of_stopped (n := .t2) ?_⟩
  · exact congrArg Timer8.cs h.t0
  · exact congrArg Timer1.cs h.t1
  · exact congrArg Timer8.cs h.t2

/-- ICR1 is captured from a counter at 0, so it stays 0. -/
theorem IdleAfterReset.clocked {d : Draw} {j : Nat} {s : State} (h : IdleAfterReset d j s) :
    IdleAfterReset d (j + 1) (clocked s) := by
  obtain ⟨h0, h1, h2⟩ := h.no_tick
  have hp (p : BitVec 10) (hp : p.toNat = j % 1024) : (p + 1#10).toNat = (j + 1) % 1024 := by
    rw [toNat_add_one, hp, Nat.mod_add_mod]
  have htifr : (Machine.clocked s).tifr = s.tifr ||| flagIf .t1Capt s.captures := by
    show s.tifr ||| flagIf .t1Capt s.captures ||| (if tick0 s then _ else 0#8) ||| (if tick1 s then _ else 0#8) |||
      (if tick2 s then _ else 0#8) = _
    rw [h0, h1, h2]
    simp
  have hicnc : s.t1.icnc = false := congrArg Timer1.icnc h.t1
  refine ⟨?_, ?_, ?_, hp s.p01 h.p01, hp s.p2 h.p2, ?_, fun hdraw => ⟨?_, ?_⟩, h.timsk, h.gie, h.isr⟩
  · rw [← h.t0]
    exact clocked_timer8_of_not_ticks (n := .t0) h0
  · rw [clocked_t1_of_not_tick h1, clocked_icr, h.t1]
    cases s.captures <;> rfl
  · rw [← h.t2]
    exact clocked_timer8_of_not_ticks (n := .t2) h2
  · rw [htifr]
    obtain hflags | hflags := h.tifr <;> rw [hflags] <;> cases s.captures <;> decide
  · obtain ⟨hzero, hlevel⟩ := h.noEdge hdraw
    have hcap : s.captures = false := by
      have hices : s.t1.ices = false := congrArg Timer1.ices h.t1
      rw [captures_eq_false_iff, clocked_icpFilt_of_icnc_false hicnc, hices]
      obtain hfilt | hpin := hlevel
      · cases hpin : s.icpPin <;> simp [hfilt]
      · simp [hpin]
    rw [htifr, hzero, hcap]
    rfl
  · rw [clocked_icpFilt_of_icnc_false hicnc]
    show s.icpPin = false ∨ s.icpPin = true
    cases s.icpPin <;> simp

theorem idleAfterReset_zero (d : Draw) : IdleAfterReset d 0 (State.resetWith d) :=
  ⟨rfl, rfl, rfl, rfl, rfl, .inl rfl, fun h => ⟨rfl, h⟩, rfl, rfl, rfl⟩

/-- Settles O13: by `IdleAfterReset`, CLK by CLK. -/
theorem clocksAfterReset : Obligations.ClocksAfterReset := by
  intro d k
  have hstep (j : Nat) (s : State) (hs : IdleAfterReset d j s) :
      clockRefusals s = [] ∧ IdleAfterReset d (j + 1) (clocked s) := by
    obtain ⟨h0, h1, h2⟩ := hs.no_tick
    exact ⟨by simp [clockRefusals, h0, h1, h2], hs.clocked⟩
  obtain ⟨t, hclocks, h⟩ := clocks_complete hstep k (idleAfterReset_zero d)
  refine ⟨t, hclocks, h.t0, h.t2, h.t1, h.p01, h.p2, ?icf, fun hdraw => (h.noEdge hdraw).1, h.timsk, h.gie, h.isr,
    ?accept, fun p => ?pin⟩
  case icf => obtain hflags | hflags := h.tifr <;> rw [hflags] <;> decide
  case accept => simp [State.acceptEnabled, h.gie]
  case pin =>
    cases p with
    | oc0 => exact (congrArg (Timer8.drive .t0 t.p01) h.t0).trans (Timer8.drive_eq .t0 _ (by decide))
    | oc2 => exact (congrArg (Timer8.drive .t2 t.p2) h.t2).trans (Timer8.drive_eq .t2 _ (by decide))
    | oc1a | oc1b =>
      rw [State.outputPin, h.t1]
      rfl

/-! ### The noise canceller (R271) -/

/-- What holds j CLKs after the pin left a level v that four samples had. -/
structure NewLevelSampled (v : Bool) (j : Nat) (s : State) : Prop where
  icnc : s.t1.icnc = true
  pin : s.icpPin = !v
  hist : s.icpHist = ⟨if 4 ≤ j then !v else v, if 3 ≤ j then !v else v, if 2 ≤ j then !v else v,
    if 1 ≤ j then !v else v⟩
  filt : s.icpFilt = if j < 4 then v else !v

theorem NewLevelSampled.clocked {v : Bool} {j : Nat} {s : State} (h : NewLevelSampled v j s) :
    NewLevelSampled v (j + 1) (clocked s) := by
  obtain ⟨-, -, -, -, hicnc, -⟩ := clocked_t1_control s
  have hhist : (Machine.clocked s).icpHist = s.icpHist.push s.icpPin := rfl
  refine ⟨hicnc.trans h.icnc, h.pin, ?_, ?_⟩
  · rw [hhist, h.hist, h.pin]
    simp [IcpHist.push]
  · rw [clocked_icpFilt_of_icnc_true h.icnc, h.hist, h.pin, h.filt]
    by_cases h3 : 3 ≤ j
    · have h2 : 2 ≤ j := by omega
      have h1 : 1 ≤ j := by omega
      have h4 : ¬j + 1 < 4 := by omega
      simp [h3, h2, h1, h4]
    · have h4 : j < 4 := by omega
      have h5 : j + 1 < 4 := by omega
      simp [h3, h4, h5]

/-- A level that both the pin and the filter have stays the filtered level. -/
theorem clocks_icpFilt_of_pin {v : Bool} {j : Nat} {u u' : State} (hpin : u.icpPin = v) (hfilt : u.icpFilt = v)
    (h : clocks j u = .next u') : u'.icpFilt = v := by
  refine (clocks_keep (P := fun _ s => s.icpPin = v ∧ s.icpFilt = v) (fun _ s hs => ⟨hs.1, ?_⟩) ⟨hpin, hfilt⟩ h).2
  cases hicnc : s.t1.icnc with
  | false => exact (clocked_icpFilt_of_icnc_false hicnc).trans hs.1
  | true =>
    rw [clocked_icpFilt_of_icnc_true hicnc, hs.1, hs.2]
    exact ite_self v

/-- Settles O38: the samples fill with the new level; a pin that takes the old level again never leaves it. -/
theorem noiseCanceller : Obligations.NoiseCanceller := by
  intro s t v k hicnc hhist hfilt hpin hclocks
  have h : NewLevelSampled v k t :=
    clocks_keep (fun _ _ hs => hs.clocked) ⟨hicnc, hpin, hhist, hfilt⟩ hclocks
  refine ⟨h.filt, fun hk j u u' hexec hu => ?_⟩
  obtain rfl := Host.Outcome.next.inj hexec
  exact clocks_icpFilt_of_pin (u := { t with icpPin := v }) rfl (h.filt.trans (if_pos hk)) hu

/-! ### A lone 8-bit timer -/

theorem onlyTimer8Runs_clocked {s : State} {n : Timer8Id} (h : s.onlyTimer8Runs n) :
    (clocked s).onlyTimer8Runs n := by
  obtain ⟨-, -, -, hcs1, -⟩ := clocked_t1_control s
  obtain ⟨-, -, hcs0, -⟩ := clocked_timer8_control s .t0
  obtain ⟨-, -, hcs2, -⟩ := clocked_timer8_control s .t2
  cases n with
  | t0 => exact ⟨hcs1.trans h.1, hcs2.trans h.2⟩
  | t2 => exact ⟨hcs1.trans h.1, hcs0.trans h.2⟩

/-- A timer that runs alone refuses only the reserved COM = 01 of its PWM modes (R407). -/
theorem clockRefusals_of_only {s : State} {n : Timer8Id} (h : s.onlyTimer8Runs n)
    (hcom : ¬(((s.timer8 n).wgm = 1#2 ∨ (s.timer8 n).wgm = 3#2) ∧ (s.timer8 n).com = 1#2)) :
    clockRefusals s = [] := by
  refine clockRefusals_eq_nil.mpr ⟨fun o ho => ?_, fun h1 => ?_⟩
  · by_cases hon : o = n
    · rwa [hon]
    · have hstopped : s.ticks8 o = false := by
        refine ticks8_of_stopped ?_
        cases n <;> cases o
        · exact absurd rfl hon
        · exact h.2
        · exact h.2
        · exact absurd rfl hon
      rw [hstopped] at ho
      cases ho
  · rw [tick1_of_stopped h.1] at h1
    cases h1

/-- The prescaler of each timer counts every CLK (R231). -/
theorem prescaler8_clocked (s : State) (n : Timer8Id) :
    (clocked s).prescaler8 n = (s.prescaler8 n + 1) % 1024 := by
  cases n with
  | t0 => exact toNat_add_one s.p01
  | t2 => exact toNat_add_one s.p2

/-- At clk_io/1 a timer ticks in every CLK. -/
theorem ticks8_of_clk1 {s : State} {n : Timer8Id} (h : (s.timer8 n).cs = 1#3) : s.ticks8 n = true := by
  have hdiv : divisor8 n (s.timer8 n).cs.toNat = some 1 := by
    rw [h]
    cases n <;> rfl
  exact (ticks8_iff_of_divisor hdiv).mpr (Nat.mod_one _)

/-! ### Normal mode on every divisor (R233, R241, R247) -/

/-- The divisors are powers of two, so the 10-bit prescaler keeps their phase. -/
theorem divisor8_dvd {n : Timer8Id} {cs : BitVec 3} {N : Nat} (h : divisor8 n cs.toNat = some N) :
    N ∣ 1024 := by
  have hall : ∀ (n : Timer8Id) (cs : BitVec 3), ∀ N ∈ divisor8 n cs.toNat, N ∣ 1024 := by
    intro n
    cases n <;> decide
  exact hall n cs N h

/-- The ticks that the prescaler gives in j CLKs from phase p on divisor N. -/
def ticksIn (p N j : Nat) : Nat := (p + j) / N - p / N

theorem ticksIn_zero (p N : Nat) : ticksIn p N 0 = 0 := Nat.sub_self _

theorem ticksIn_succ (p j N : Nat) :
    ticksIn p N (j + 1) = ticksIn p N j + if (p + j + 1) % N = 0 then 1 else 0 := by
  have hle : p / N ≤ (p + j) / N := Nat.div_le_div_right (Nat.le_add_right p j)
  have hsucc : (p + j + 1) / N = (p + j) / N + if (p + j + 1) % N = 0 then 1 else 0 := by
    simp only [Nat.succ_div, Nat.dvd_iff_mod_eq_zero]
  simp only [ticksIn, ← Nat.add_assoc, hsucc]
  omega

/-- What holds after j CLKs of a lone timer in Normal mode that starts at count c with overflow flag f and prescaler
phase p on divisor N. -/
structure NormalCount (n : Timer8Id) (N p c : Nat) (f : Bool) (j : Nat) (s : State) : Prop where
  only : s.onlyTimer8Runs n
  wgm : (s.timer8 n).wgm = 0#2
  divisor : divisor8 n (s.timer8 n).cs.toNat = some N
  prescaler : s.prescaler8 n = (p + j) % 1024
  tcnt : (s.timer8 n).tcnt.toNat = (c + ticksIn p N j) % 256
  ovf : s.flag (delaySource n) = (f || decide (256 ≤ c + ticksIn p N j))

theorem NormalCount.ticks_iff {n : Timer8Id} {N p c j : Nat} {f : Bool} {s : State} (h : NormalCount n N p c f j s) :
    s.ticks8 n = true ↔ (p + j + 1) % N = 0 := by
  rw [ticks8_iff_of_divisor h.divisor, h.prescaler, Nat.mod_add_mod, Nat.mod_mod_of_dvd _ (divisor8_dvd h.divisor)]

theorem NormalCount.clocked {n : Timer8Id} {N p c j : Nat} {f : Bool} {s : State} (h : NormalCount n N p c f j s) :
    NormalCount n N p c f (j + 1) (clocked s) := by
  obtain ⟨hwgm, -, hcs, -⟩ := clocked_timer8_control s n
  have hsucc := ticksIn_succ p j N
  rw [← if_congr h.ticks_iff rfl rfl] at hsucc
  have hovf := (Timer8.step_normal_or_ctc (.inl h.wgm)).1
  refine ⟨onlyTimer8Runs_clocked h.only, hwgm.trans h.wgm, by rw [hcs, h.divisor], ?prescaler, ?tcnt, ?ovf⟩
  case prescaler =>
    rw [prescaler8_clocked, h.prescaler, Nat.mod_add_mod]
    rfl
  case tcnt =>
    rw [clocked_timer8, hsucc]
    split
    · rw [Timer8.step_tcnt, Timer8.countStep_normal h.wgm]
      show (_ + 1) % 256 % 256 = _
      rw [h.tcnt]
      omega
    · exact h.tcnt
  case ovf =>
    have hmax : ((s.timer8 n).tcnt == 0xFF#8) = decide ((c + ticksIn p N j) % 256 = 255) := by
      rw [← toNat_beq, h.tcnt]
      rfl
    rw [clocked_flag_ovf8, h.ovf, hovf, hmax, hsucc]
    cases f with
    | true => simp
    | false =>
      cases s.ticks8 n with
      | false => simp
      | true =>
        simp only [Bool.false_or, Bool.true_and, ← Bool.decide_or, if_true]
        exact decide_eq_decide.mpr (by omega)

theorem NormalCount.zero {n : Timer8Id} {N : Nat} {s : State} (hwgm : (s.timer8 n).wgm = 0#2)
    (honly : s.onlyTimer8Runs n) (hdiv : divisor8 n (s.timer8 n).cs.toNat = some N) :
    NormalCount n N (s.prescaler8 n) (s.timer8 n).tcnt.toNat (s.flag (delaySource n)) 0 s := by
  have hp : s.prescaler8 n < 1024 := by
    cases n with
    | t0 => exact s.p01.isLt
    | t2 => exact s.p2.isLt
  have hc : (s.timer8 n).tcnt.toNat < 256 := (s.timer8 n).tcnt.isLt
  refine ⟨honly, hwgm, hdiv, (Nat.mod_eq_of_lt hp).symm, ?_, ?_⟩ <;> rw [ticksIn_zero]
  · exact (Nat.mod_eq_of_lt hc).symm
  · simp [hc]

theorem NormalCount.clocks {n : Timer8Id} {N p c : Nat} {f : Bool} {s : State} (h : NormalCount n N p c f 0 s)
    (k : Nat) : ∃ t, clocks k s = .next t ∧ NormalCount n N p c f k t :=
  clocks_complete (fun _ _ hs => ⟨clockRefusals_of_only hs.only (by simp [hs.wgm]), hs.clocked⟩) k h

/-- Settles O39: by `NormalCount`, CLK by CLK. -/
theorem prescaledCountAndOverflow : Obligations.PrescaledCountAndOverflow := by
  intro n N k ticks s hwgm honly hdiv hticks
  obtain ⟨t, hclocks, h⟩ := (NormalCount.zero hwgm honly hdiv).clocks k
  exact ⟨t, hclocks, hticks ▸ h.tcnt, hticks ▸ h.ovf⟩

/-! ### CTC at clk_io/1 (R241) -/

/-- What holds after j CLKs of a lone timer in CTC at clk_io/1, from count c with TOP q and overflow flag f. -/
structure CtcCount (n : Timer8Id) (q : Byte) (c : Nat) (f : Bool) (j : Nat) (s : State) : Prop where
  only : s.onlyTimer8Runs n
  wgm : (s.timer8 n).wgm = 2#2
  cs : (s.timer8 n).cs = 1#3
  top : (s.timer8 n).ocrAct = q
  tcnt : (s.timer8 n).tcnt.toNat = (c + j) % (q.toNat + 1)
  ovf : q ≠ 0xFF#8 → s.flag (delaySource n) = f

/-- Counting up to q and back to 0 is counting modulo q + 1. -/
theorem succ_mod_eq_ite (x q : Nat) : (x + 1) % (q + 1) = if x % (q + 1) = q then 0 else x % (q + 1) + 1 := by
  have hlt : x % (q + 1) < q + 1 := Nat.mod_lt _ (Nat.succ_pos q)
  rw [← Nat.mod_add_mod]
  split
  case isTrue h => rw [h, Nat.mod_self]
  case isFalse h => exact Nat.mod_eq_of_lt (by omega)

theorem CtcCount.clocked {n : Timer8Id} {q : Byte} {c j : Nat} {f : Bool} {s : State} (h : CtcCount n q c f j s) :
    CtcCount n q c f (j + 1) (clocked s) := by
  obtain ⟨hwgm, -, hcs, -⟩ := clocked_timer8_control s n
  have htick : s.ticks8 n = true := ticks8_of_clk1 h.cs
  obtain ⟨hovf, -, hact, -⟩ := Timer8.step_normal_or_ctc (.inr h.wgm)
  have hle : (s.timer8 n).tcnt.toNat ≤ q.toNat := by
    rw [h.tcnt]
    exact Nat.le_of_lt_succ (Nat.mod_lt _ (Nat.succ_pos _))
  have hq := q.isLt
  refine ⟨onlyTimer8Runs_clocked h.only, hwgm.trans h.wgm, hcs.trans h.cs, ?top, ?tcnt, fun hne => ?ovf⟩
  case top => rw [clocked_timer8_of_ticks htick, hact, h.top]
  case tcnt =>
    rw [clocked_timer8_of_ticks htick, Timer8.step_tcnt, Timer8.countStep_ctc h.wgm, h.top]
    show (if _ = q.toNat then 0 else (_ + 1) % 256) % 256 = _
    rw [← Nat.add_assoc, succ_mod_eq_ite (c + j), ← h.tcnt]
    split <;> omega
  case ovf =>
    have hmax : ((s.timer8 n).tcnt == 0xFF#8) = false := by
      refine Bool.eq_false_iff.mpr fun hc => hne (BitVec.eq_of_toNat_eq ?_)
      have h255 : (s.timer8 n).tcnt.toNat = 255 := congrArg BitVec.toNat (beq_iff_eq.mp hc)
      show q.toNat = 255
      omega
    rw [clocked_flag_ovf8, hovf, hmax, Bool.and_false, Bool.or_false]
    exact h.ovf hne

/-- Settles O40: by `CtcCount`, CLK by CLK. -/
theorem ctcPeriod : Obligations.CtcPeriod := by
  intro n k s hwgm hcs honly hle
  have hzero : CtcCount n (s.timer8 n).ocrAct (s.timer8 n).tcnt.toNat (s.flag (delaySource n)) 0 s :=
    ⟨honly, hwgm, hcs, rfl, (Nat.mod_eq_of_lt (Nat.lt_succ_of_le hle)).symm, fun _ => rfl⟩
  obtain ⟨t, hclocks, h⟩ := clocks_complete
    (fun _ _ hs => ⟨clockRefusals_of_only hs.only (by simp [hs.wgm]), hs.clocked⟩) k hzero
  exact ⟨t, hclocks, h.tcnt, h.ovf⟩

/-! ### Fast PWM at clk_io/1 (R261) -/

/-- What holds after j CLKs of a lone timer in non-inverting Fast PWM at clk_io/1 with compare value q, from a BOTTOM
with the output high. -/
structure FastPwmCount (n : Timer8Id) (q : Byte) (j : Nat) (s : State) : Prop where
  only : s.onlyTimer8Runs n
  wgm : (s.timer8 n).wgm = 3#2
  com : (s.timer8 n).com = 2#2
  cs : (s.timer8 n).cs = 1#3
  act : (s.timer8 n).ocrAct = q
  buf : (s.timer8 n).ocrBuf = q
  blk : (s.timer8 n).blk = false
  tcnt : (s.timer8 n).tcnt.toNat = j % 256
  oc : (s.timer8 n).oc = decide (j % 256 ≤ q.toNat)

theorem FastPwmCount.clocked {n : Timer8Id} {q : Byte} {j : Nat} {s : State} (h : FastPwmCount n q j s) :
    FastPwmCount n q (j + 1) (clocked s) := by
  obtain ⟨hwgm, hcom, hcs, hbuf⟩ := clocked_timer8_control s n
  have htick : s.ticks8 n = true := ticks8_of_clk1 h.cs
  have hwrap : decide (j % 256 = 255) = ((s.timer8 n).tcnt == 0xFF#8) := by
    rw [← toNat_beq, h.tcnt]
    rfl
  have hmatch : (s.timer8 n).matched = decide (j % 256 = q.toNat) := by
    rw [Timer8.matched, h.blk, h.act, ← toNat_beq, h.tcnt]
    rfl
  obtain ⟨htcnt, -, hact, hoc⟩ := Timer8.step_fast h.wgm _ hwrap
  refine ⟨onlyTimer8Runs_clocked h.only, hwgm.trans h.wgm, hcom.trans h.com, hcs.trans h.cs, ?act, hbuf.trans h.buf,
    ?blk, ?tcnt, ?oc⟩
  all_goals rw [clocked_timer8_of_ticks htick]
  case act => rw [hact, h.act, h.buf, ite_self]
  case blk => rfl
  case tcnt =>
    rw [htcnt, h.tcnt]
    simp only [decide_eq_true_eq]
    split <;> omega
  case oc =>
    rw [hoc, if_pos h.com, h.oc, hmatch, ← decide_not, ← Bool.decide_and, ← Bool.decide_or]
    exact decide_eq_decide.mpr (by omega)

/-- Settles O41: by `FastPwmCount`, CLK by CLK. -/
theorem fastPwmHighTime : Obligations.FastPwmHighTime := by
  intro n k s hwgm hcom hcs honly htcnt hblk hoc hact
  have hzero : FastPwmCount n (s.timer8 n).ocrAct 0 s :=
    ⟨honly, hwgm, hcom, hcs, rfl, hact.symm, hblk, by rw [htcnt]; rfl, by simp [hoc]⟩
  obtain ⟨t, hclocks, h⟩ := clocks_complete
    (fun _ _ hs => ⟨clockRefusals_of_only hs.only (by simp [hs.com]), hs.clocked⟩) k hzero
  exact ⟨t, hclocks, h.oc, h.tcnt⟩

end Sys2Proof.Machine
end

section
/-! PROOFS. Runs of steps with nothing issued (spec 00_scope.md R13): a driver call runs its expansion action by action
while no ACCEPT is enabled. With it O49, O54 and O55, whose runs are written out step by step. -/

namespace Sys2Proof.Machine

/-! ### Runs -/

theorem runSteps_step {k : Nat} {s t : State} {r : Result} (h : step s = .next t) (hr : runSteps k t = r) :
    runSteps (k + 1) s = r := by
  simp only [runSteps, Host.Core.run, core, h]
  exact hr

theorem runSteps_congr {k : Nat} {s t : State} (h : step s = step t) : runSteps (k + 1) s = runSteps (k + 1) t := by
  simp only [runSteps, Host.Core.run, core, h]

theorem runSteps_trans {j k : Nat} {s t : State} {r : Result} (h : runSteps j s = .next t) (hr : runSteps k t = r) :
    runSteps (j + k) s = r := by
  induction j generalizing s with
  | zero =>
    obtain rfl := Host.Outcome.next.inj h
    rw [Nat.zero_add]
    exact hr
  | succ j ih =>
    cases hs : step s with
    | next u =>
      rw [runSteps_step hs rfl] at h
      rw [Nat.succ_add]
      exact runSteps_step hs (ih h)
    | fault f => simp [runSteps, Host.Core.run, core, hs] at h
    | refused e => simp [runSteps, Host.Core.run, core, hs] at h

/-- The next step is the operation's in progress: the run has not stopped, nothing is issued, no ACCEPT is enabled. -/
structure Quiet (s : State) : Prop where
  noFault : s.faults = []
  noRefusal : s.refusals = []
  noInput : s.input = []
  noAccept : s.acceptEnabled = false

theorem Quiet.step_eq {s : State} {m : Micro} {ms : List Micro} (hq : Quiet s) (hp : s.pending = m :: ms) :
    step s = microStep m { s with pending := ms } :=
  step_pending hq.noFault hq.noRefusal hq.noAccept hq.noInput hp

/-- One action of the operation in progress, then the rest of the run. -/
theorem Quiet.run {k : Nat} {s t : State} {m : Micro} {ms : List Micro} {r : Result} (hq : Quiet s)
    (hp : s.pending = m :: ms) (hm : microStep m { s with pending := ms } = .next t) (hr : runSteps k t = r) :
    runSteps (k + 1) s = r :=
  runSteps_step ((hq.step_eq hp).trans hm) hr

theorem acceptEnabled_of_gie {s : State} (h : s.gie = false) : s.acceptEnabled = false := by
  rw [State.acceptEnabled, h]
  rfl

theorem acceptEnabled_of_shadow {s : State} (h : s.shadow = true) : s.acceptEnabled = false := by
  rw [State.acceptEnabled, h, Bool.not_true, Bool.and_false]
  rfl

/-- No source is pending where no flag meets its mask bit. -/
theorem acceptEnabled_of_noRequest {s : State} (h : s.gie = false ∨ s.tifr &&& s.timsk = 0#8) :
    s.acceptEnabled = false := by
  obtain hgie | hpending := h
  · exact acceptEnabled_of_gie hgie
  · refine Bool.eq_false_iff.mpr fun ha => ?_
    obtain ⟨-, -, ⟨src, hflag, hmask⟩, -, -⟩ := acceptEnabled_iff.mp ha
    have hbit : (s.tifr &&& s.timsk).getLsbD (sourceBit src) = true := by
      rw [BitVec.getLsbD_and, hflag, hmask]
      rfl
    rw [hpending] at hbit
    simp at hbit

/-! ### Driver calls -/

/-- A state that is ready for a call, with the actions ms in progress. -/
def State.doing (s : State) (ms : List Micro) : State := { s with input := [], pending := ms }

theorem Ready.quiet {s : State} (h : Ready s) (ms : List Micro) : Quiet (s.doing ms) :=
  ⟨h.noFault, h.noRefusal, rfl, acceptEnabled_of_noRequest h.noRequest⟩

/-- A call takes its first step as if its expansion were in progress. -/
theorem Ready.step_calling {s : State} {i : Instr} (h : Ready s) (hwf : i.wellFormed = true)
    (hbody : i.isBodyAction = true) : step (s.calling i) = step (s.doing (expand i)) := by
  obtain ⟨henv, -, haccept⟩ := isBodyAction_iff.mp hbody
  obtain ⟨m, ms, he⟩ := List.exists_cons_of_ne_nil (expand_ne_nil hwf hbody)
  have hruns : (s.calling i).runsNow i false = true := by
    have hidle : (s.calling i).pending = [] := h.idle
    rw [runsNow_cpu henv haccept, acceptEnabled_of_noRequest (s := s.calling i) h.noRequest, hidle]
    rfl
  rw [step_word (s := s.calling i) h.noFault h.noRefusal rfl, takeWord_runs (decode_encode hwf) hruns,
    exec_eq_microStep hwf hbody he, (h.quiet (expand i)).step_eq he]
  have hpush : ({ s.calling i with input := [] } : State).push ms = s.doing ms := by
    show ({ s with input := [], pending := ms ++ s.pending } : State) = s.doing ms
    rw [h.idle, List.append_nil]
    rfl
  rw [hpush]
  rfl

theorem Ready.run_calling {k : Nat} {s : State} {i : Instr} {r : Result} (h : Ready s) (hwf : i.wellFormed = true)
    (hbody : i.isBodyAction = true) (hr : runSteps (k + 1) (s.doing (expand i)) = r) :
    runSteps (k + 1) (s.calling i) = r := by
  rw [runSteps_congr (h.step_calling hwf hbody), hr]

/-- With nothing left in progress, only the input differs. -/
theorem Ready.doing_nil {s : State} (h : Ready s) : s.doing [] = { s with input := [] } :=
  congrArg (fun ps => ({ s with input := [], pending := ps } : State)) h.idle.symm

/-! ### DISPATCH and the end of a handler (R341, R342, R344) -/

theorem dispatchMicros_eq (src : Source) :
    expand (.dispatch src) = [.cli, .invoke src, .wr .tifr (1#8 <<< sourceBit src), .sei] := by
  rw [← onehot_sourceBit]
  rfl

/-- The clear of the flag and SEI, with GIE = 0. -/
theorem run_clear_sei {k : Nat} {src : Source} {s : State} {ms : List Micro} {r : Result} (hq : Quiet s)
    (hgie : s.gie = false) (hp : s.pending = [.wr .tifr (1#8 <<< sourceBit src), .sei] ++ ms)
    (hr : runSteps k { s with
      tifr := s.tifr &&& ~~~(1#8 <<< sourceBit src), gie := true, shadow := true, pending := ms } = r) :
    runSteps (k + 2) s = r := by
  refine hq.run hp rfl (Quiet.run ⟨hq.noFault, hq.noRefusal, hq.noInput, acceptEnabled_of_gie hgie⟩ rfl rfl hr)

/-- Settles O49: the run of a call for DISPATCH's first two actions, and `run_clear_sei` for its end. -/
theorem dispatchAndHandler : Obligations.DispatchAndHandler := by
  intro src s
  refine ⟨?first, fun cb hs hcb => ?invoke, fun ms hf hr hgie hi hp => ?bodyEnd,
    fun o rest ms hf hr hgie hi hisr hp => ?handlerEnd⟩
  case first =>
    rw [exec_eq_microStep rfl rfl (dispatchMicros_eq src)]
    rfl
  case invoke =>
    refine hs.run_calling rfl rfl ?_
    rw [dispatchMicros_eq]
    refine (hs.quiet _).run rfl rfl (Quiet.run ⟨hs.noFault, hs.noRefusal, rfl, acceptEnabled_of_gie rfl⟩ rfl
      (doInvoke_next.mpr ⟨cb, hcb, rfl⟩) rfl)
  case bodyEnd => exact run_clear_sei ⟨hf, hr, hi, acceptEnabled_of_gie hgie⟩ hgie hp rfl
  case handlerEnd =>
    refine run_clear_sei (ms := .reti :: ms) ⟨hf, hr, hi, acceptEnabled_of_gie hgie⟩ hgie hp ?_
    exact Quiet.run ⟨hf, hr, hi, acceptEnabled_of_shadow rfl⟩ rfl (doReti_next.mpr ⟨o, rest, hisr, rfl⟩) rfl

/-! ### SET_COMPARE, SET_TIMER and GET_TIMER (R305 to R307) -/

theorem eq_loByte_of_toNat {d : Byte} {v : Half} (hv : v.toNat ≤ 255) (h : d.toNat = v.toNat) : d = loByte v := by
  refine BitVec.eq_of_toNat_eq ?_
  rw [loByte_eq_ofNat, BitVec.toNat_ofNat, h]
  omega

theorem eq_hiByte_of_toNat {h : Byte} {v : Half} (hh : h.toNat = v.toNat / 256) : h = hiByte v := by
  refine BitVec.eq_of_toNat_eq ?_
  rw [hiByte_eq_ofNat, BitVec.toNat_ofNat, hh]
  have := v.isLt
  omega

theorem pair_hiByte_loByte (v : Half) : pair (hiByte v) (loByte v) = v :=
  pair_eq_of_toNat (toNat_hiByte_loByte v).symm

/-- On an 8-bit timer SET_COMPARE and SET_TIMER are one bus write each. -/
theorem exec_set8 (n : Timer8Id) {v : Half} (hv : v.toNat ≤ 255) (s : State) :
    exec (.setCompare (timerOf8 n) .a v) s = exec ((ocrOf n).writeInstr (loByte v)) s ∧
      exec (.setTimer (timerOf8 n) v) s = exec ((tcntOf n).writeInstr (loByte v)) s := by
  have hvalue : valueOk (timerOf8 n) v = true := valueOk_of_le hv _
  rw [exec_writeInstr, exec_writeInstr, exec_eq_startOperation rfl, exec_eq_startOperation rfl]
  cases n <;> simp only [Instr.wellFormed, hvalue] <;> exact ⟨rfl, rfl⟩

/-- SET_TIMER on Timer1: GIE is 0 between the two writes, and SEI restores a GIE of 1 (R306). -/
theorem run_setTimer1 {s : State} (hs : Ready s) (v : Half) :
    runSteps (if s.gie then 4 else 3) (s.doing [.setTimer1 v]) = .next { s.doing [] with
      gie := s.gie, t1 := { s.t1 with temp := hiByte v, tcnt := v, blk := true }, shadow := s.gie } := by
  have hq (ms : List Micro) (u : Timer1) : Quiet { s.doing ms with gie := false, t1 := u, shadow := false } :=
    ⟨hs.noFault, hs.noRefusal, rfl, acceptEnabled_of_gie rfl⟩
  have hcli : runSteps 1 (s.doing [.setTimer1 v]) = .next
      { s.doing (.wr .tcnt1h (hiByte v) :: .wr .tcnt1l (loByte v) :: if s.gie then [.sei] else []) with
        gie := false, shadow := false } := by
    rw [← List.append_nil (_ :: _ :: _)]
    exact (hs.quiet _).run rfl rfl rfl
  have hwrites (ms : List Micro) : runSteps 2
      { s.doing (.wr .tcnt1h (hiByte v) :: .wr .tcnt1l (loByte v) :: ms) with gie := false, shadow := false } = .next
      { s.doing ms with
        gie := false
        t1 := { s.t1 with temp := hiByte v, tcnt := pair (hiByte v) (loByte v), blk := true }, shadow := false } :=
    (hq _ s.t1).run rfl rfl ((hq (.wr .tcnt1l (loByte v) :: ms) { s.t1 with temp := hiByte v }).run rfl rfl rfl)
  rw [pair_hiByte_loByte] at hwrites
  have hthree := runSteps_trans hcli (hwrites _)
  cases hgie : s.gie <;> rw [hgie] at hthree
  · exact hthree
  · exact runSteps_trans (k := 1) hthree ((hq [.sei] _).run rfl rfl rfl)

/-- The high read of GET_TIMER: the value is TEMP1 and the low byte read before. -/
theorem microStep_getTimer1H {g : Bool} {lo : Byte} {v : Half} {s : State} (hv : pair s.t1.temp lo = v) :
    microStep (.getTimer1H g lo) s = .next (if g
      then { s with rdata := s.t1.temp, shadow := false, pending := .getTimer1Ret v :: s.pending }
      else { s with rdata := s.t1.temp, shadow := false, result := v }) := by
  subst hv
  cases g <;> rfl

/-- GET_TIMER on Timer1: the low read keeps the high byte in TEMP1 for the high read (R307). -/
theorem run_getTimer1 {s : State} (hs : Ready s) :
    runSteps (if s.gie then 4 else 3) (s.doing [.getTimer1]) = .next { s.doing [] with
      gie := s.gie, t1 := { s.t1 with temp := hiByte s.t1.tcnt }, rdata := hiByte s.t1.tcnt, result := s.t1.tcnt
      shadow := s.gie } := by
  have hq (ms : List Micro) (u : Timer1) (b : Byte) :
      Quiet { s.doing ms with gie := false, t1 := u, rdata := b, shadow := false } :=
    ⟨hs.noFault, hs.noRefusal, rfl, acceptEnabled_of_gie rfl⟩
  have htwo : runSteps 2 (s.doing [.getTimer1]) = .next { s.doing [.getTimer1H s.gie (loByte s.t1.tcnt)] with
      gie := false, t1 := { s.t1 with temp := hiByte s.t1.tcnt }, rdata := loByte s.t1.tcnt, shadow := false } :=
    (hs.quiet _).run rfl rfl ((hq [.getTimer1L s.gie] s.t1 s.rdata).run rfl rfl rfl)
  have hvalue := pair_hiByte_loByte s.t1.tcnt
  cases hgie : s.gie <;> rw [hgie] at htwo
  · exact runSteps_trans (k := 1) htwo ((hq _ _ _).run rfl (microStep_getTimer1H hvalue) rfl)
  · exact runSteps_trans (k := 2) htwo ((hq _ _ _).run rfl (microStep_getTimer1H hvalue)
      ((hq [.getTimer1Ret s.t1.tcnt] _ _).run rfl rfl rfl))

/-- Settles O54: each call on Timer1 is run action by action, by whether GIE was 1. -/
theorem counterAndCompareCalls : Obligations.CounterAndCompareCalls := by
  intro s
  refine ⟨fun n v hv d hd => ?set8, fun n => ?get8, fun u v h hh => ⟨?compareFirst, ⟨_, rfl⟩, ⟨_, rfl⟩⟩,
    fun hs v h hh => ?set1, fun hs h hh => ?get1⟩
  case set8 =>
    rw [eq_loByte_of_toNat hv hd]
    exact exec_set8 n hv s
  case get8 => cases n <;> rfl
  case compareFirst =>
    rw [eq_hiByte_of_toNat hh]
    cases u <;> exact ⟨_, rfl⟩
  case set1 =>
    obtain rfl := eq_hiByte_of_toNat hh
    have hq (ms : List Micro) (u : Timer1) : Quiet { s.doing ms with t1 := u, shadow := false } :=
      ⟨hs.noFault, hs.noRefusal, rfl, acceptEnabled_of_noRequest hs.noRequest⟩
    refine ⟨?compareA, ?compareB, ?timer⟩
    case compareA =>
      have hrun : runSteps 2 (s.doing (expand (.setCompare .t1 .a v))) = .next { s.doing [] with
          t1 := Timer1.writeOcrA { s.t1 with temp := hiByte v } (pair (hiByte v) (loByte v)), shadow := false } :=
        (hs.quiet _).run rfl rfl ((hq _ _).run rfl rfl rfl)
      rw [hs.doing_nil, pair_hiByte_loByte] at hrun
      exact hs.run_calling rfl rfl hrun
    case compareB =>
      have hrun : runSteps 2 (s.doing (expand (.setCompare .t1 .b v))) = .next { s.doing [] with
          t1 := Timer1.writeOcrB { s.t1 with temp := hiByte v } (pair (hiByte v) (loByte v)), shadow := false } :=
        (hs.quiet _).run rfl rfl ((hq _ _).run rfl rfl rfl)
      rw [hs.doing_nil, pair_hiByte_loByte] at hrun
      exact hs.run_calling rfl rfl hrun
    case timer =>
      have hrun := run_setTimer1 hs v
      rw [hs.doing_nil] at hrun
      cases hgie : s.gie <;> rw [hgie] at hrun <;> exact hs.run_calling rfl rfl hrun
  case get1 =>
    obtain rfl := eq_hiByte_of_toNat hh
    have hrun := run_getTimer1 hs
    rw [hs.doing_nil] at hrun
    cases hgie : s.gie <;> rw [hgie] at hrun <;> exact hs.run_calling rfl rfl hrun

/-! ### The ENABLE and DISABLE calls on interrupts (R345 to R350) -/

/-- The slots after SLOT_STORE: the null id leaves them. -/
def storedSlots (sl : Slots) (src : Source) (cb : Half) : Slots := if cb = 0#16 then sl else setSlot sl src (some cb)

theorem doSlotStore_eq (s : State) (src : Source) (cb : Half) :
    s.doSlotStore src cb = { s with slots := storedSlots s.slots src cb, shadow := false } := by
  by_cases hcb : cb = 0#16
  · rw [storedSlots, if_pos hcb, hcb, doSlotStore_null]
  · rw [storedSlots, if_neg hcb, doSlotStore_of_ne_null hcb]

theorem enableMicros_eq (src : Source) (cb : Half) :
    enableMicros src cb = [.cli, .slotStore src cb, .rmw .timsk 0xFF#8 (1#8 <<< sourceBit src), .sei] := by
  rw [enableMicros, if_pos (.inr rfl), onehot_sourceBit]
  rfl

theorem disableIntMicros_eq (src : Source) :
    disableIntMicros src = [.rmw .timsk (~~~(1#8 <<< sourceBit src)) 0#8] := by
  rw [disableIntMicros, onehot_sourceBit]

/-- In the course of an ENABLE call: GIE is 0, and only the slots, the mask and the byte read differ. -/
def State.enabling (s : State) (sl : Slots) (mask b : Byte) (ms : List Micro) : State :=
  { s.doing ms with gie := false, slots := sl, timsk := mask, rdata := b, shadow := false }

theorem Ready.enabling_quiet {s : State} (h : Ready s) (sl : Slots) (mask b : Byte) (ms : List Micro) :
    Quiet (s.enabling sl mask b ms) :=
  ⟨h.noFault, h.noRefusal, rfl, acceptEnabled_of_gie rfl⟩

theorem run_enableInt {s : State} (hs : Ready s) (src : Source) (cb : Half) :
    runSteps 5 (s.doing (enableMicros src cb)) = .next { s.doing [] with
      slots := storedSlots s.slots src cb, timsk := s.timsk ||| (1#8 <<< sourceBit src), gie := true, shadow := true
      rdata := s.timsk } := by
  have hmask : (s.timsk &&& 0xFF#8) ||| (1#8 <<< sourceBit src) = s.timsk ||| (1#8 <<< sourceBit src) := by
    rw [show (0xFF#8 : Byte) = BitVec.allOnes 8 from rfl, BitVec.and_allOnes]
  have hcli (ms : List Micro) : microStep .cli (s.doing ms) = .next (s.enabling s.slots s.timsk s.rdata ms) := rfl
  have hstore (ms : List Micro) : microStep (.slotStore src cb) (s.enabling s.slots s.timsk s.rdata ms) =
      .next (s.enabling (storedSlots s.slots src cb) s.timsk s.rdata ms) :=
    congrArg Host.Outcome.next (doSlotStore_eq _ src cb)
  have hread (sl : Slots) (v : Byte) (ms : List Micro) :
      microStep (.rmw .timsk 0xFF#8 v) (s.enabling sl s.timsk s.rdata ms) =
        .next (s.enabling sl s.timsk s.timsk (.wr .timsk ((s.timsk &&& 0xFF#8) ||| v) :: ms)) := rfl
  have hwrite (sl : Slots) (d : Byte) (ms : List Micro) :
      microStep (.wr .timsk d) (s.enabling sl s.timsk s.timsk ms) = .next (s.enabling sl d s.timsk ms) := rfl
  rw [enableMicros_eq, ← hmask]
  exact (hs.quiet _).run rfl (hcli _) ((hs.enabling_quiet _ _ _ _).run rfl (hstore _)
    ((hs.enabling_quiet _ _ _ _).run rfl (hread _ _ _) ((hs.enabling_quiet _ _ _ _).run rfl (hwrite _ _ _)
      ((hs.enabling_quiet _ _ _ _).run rfl rfl rfl))))

theorem run_disableInt {s : State} (hs : Ready s) (src : Source) :
    runSteps 2 (s.doing (disableIntMicros src)) = .next { s.doing [] with
      timsk := s.timsk &&& ~~~(1#8 <<< sourceBit src), rdata := s.timsk, shadow := false } := by
  have hread (keep : Byte) : microStep (.rmw .timsk keep 0#8) (s.doing []) =
      .next { s.doing [.wr .timsk ((s.timsk &&& keep) ||| 0#8)] with rdata := s.timsk, shadow := false } := rfl
  have hwrite (d : Byte) : microStep (.wr .timsk d) { s.doing [] with rdata := s.timsk, shadow := false } =
      .next { s.doing [] with timsk := d, rdata := s.timsk, shadow := false } := rfl
  rw [disableIntMicros_eq, ← BitVec.or_zero (x := s.timsk &&& _)]
  exact (hs.quiet _).run rfl (hread _)
    (Quiet.run ⟨hs.noFault, hs.noRefusal, rfl, acceptEnabled_of_noRequest hs.noRequest⟩ rfl (hwrite _) rfl)

/-- A body action whose expansion is known: its first step, issued in any state. -/
theorem exec_eq_of_expand {i : Instr} {m : Micro} {ms : List Micro} {s t : State} (hwf : i.wellFormed = true)
    (hbody : i.isBodyAction = true) (he : expand i = m :: ms) (hm : microStep m (s.push ms) = .next t) :
    exec i s = .next t :=
  (exec_eq_microStep hwf hbody he s).trans hm

theorem exec_of_expand_cli {i : Instr} {ms : List Micro} (s : State) (hwf : i.wellFormed = true)
    (hbody : i.isBodyAction = true) (he : expand i = .cli :: ms) :
    exec i s = .next { s with gie := false, shadow := false, pending := ms ++ s.pending } :=
  exec_eq_of_expand hwf hbody he rfl

theorem exec_of_expand_rmwTimsk {i : Instr} {keep v : Byte} (s : State) (hwf : i.wellFormed = true)
    (hbody : i.isBodyAction = true) (he : expand i = [.rmw .timsk keep v]) : exec i s = .next { s with
      rdata := s.timsk, shadow := false, pending := [.wr .timsk ((s.timsk &&& keep) ||| v)] ++ s.pending } := by
  refine exec_eq_of_expand hwf hbody he ?_
  rw [microStep_rmw]
  rfl

/-- Settles O55: of each call only its expansion and its source matter, and both runs are written out. -/
theorem interruptMaskCalls : Obligations.InterruptMaskCalls := by
  intro s on off src cb hcalls
  obtain ⟨⟨hon, honBody, honExpand⟩, hoff, hoffBody, hoffExpand⟩ :
      (on.wellFormed = true ∧ on.isBodyAction = true ∧ expand on = enableMicros src cb) ∧
        off.wellFormed = true ∧ off.isBodyAction = true ∧ expand off = disableIntMicros src := by
    obtain ⟨t, rfl, rfl, rfl⟩ | ⟨t, u, hunit, rfl, rfl, rfl⟩ | ⟨rfl, rfl, rfl⟩ := hcalls
    · exact ⟨⟨rfl, rfl, rfl⟩, rfl, rfl, rfl⟩
    · exact ⟨⟨hunit, rfl, rfl⟩, hunit, rfl, rfl⟩
    · exact ⟨⟨rfl, rfl, rfl⟩, rfl, rfl, rfl⟩
  refine ⟨⟨_, exec_of_expand_cli s hon honBody (honExpand.trans (enableMicros_eq src cb))⟩,
    ⟨_, exec_of_expand_rmwTimsk s hoff hoffBody (hoffExpand.trans (disableIntMicros_eq src))⟩,
    fun hs => ⟨⟨storedSlots s.slots src cb, ?runOn, fun hcb => ?stored, fun hcb => ?left⟩, ?runOff⟩⟩
  case runOn =>
    have hrun := run_enableInt hs src cb
    rw [hs.doing_nil, ← honExpand] at hrun
    exact hs.run_calling hon honBody hrun
  case stored =>
    rw [storedSlots, if_neg hcb]
    exact ⟨slotOf_setSlot_same _ _ _, fun o ho => slotOf_setSlot_other _ _ ho⟩
  case left => rw [storedSlots, if_pos hcb]
  case runOff =>
    have hrun := run_disableInt hs src
    rw [hs.doing_nil, ← hoffExpand] at hrun
    exact hs.run_calling hoff hoffBody hrun

end Sys2Proof.Machine
end

section
/-! PROOFS. INIT, DISABLE and the configuration of DELAY_MS on Timer0 and Timer2 (spec 42_driver_config.md, 43): a
read-modify-write of TCCRn changes one of its three fields. With it O51 and O57. -/

namespace Sys2Proof.Machine

/-! ### The byte of TCCRn by its fields -/

/-- TCCRn of mode w, action c and clock select cs, with FOCn as 0 (R152). -/
def tccr8 (w c : BitVec 2) (cs : BitVec 3) : Byte := 0#1 ++ field w 0 1 ++ c ++ field w 1 1 ++ cs

theorem Timer8.readTccr_eq_tccr8 (t : Timer8) : t.readTccr = tccr8 t.wgm t.com t.cs := rfl

theorem toNat_tccr8 (w c : BitVec 2) (cs : BitVec 3) :
    (tccr8 w c cs).toNat = 64 * (w.toNat % 2) + 16 * c.toNat + 8 * (w.toNat / 2) + cs.toNat := by
  have hw := w.isLt
  have hc := c.isLt
  simp only [tccr8, toNat_append_eq_add, toNat_field, BitVec.toNat_ofNat]
  omega

theorem tccr8_mode (w c : BitVec 2) (cs : BitVec 3) :
    field (tccr8 w c cs) 3 1 ++ field (tccr8 w c cs) 6 1 = w := by
  refine BitVec.eq_of_getLsbD_eq fun i hi => ?_
  simp only [tccr8, field, BitVec.getLsbD_append, BitVec.getLsbD_extractLsb']
  interval_cases i <;> simp

theorem tccr8_action (w c : BitVec 2) (cs : BitVec 3) : field (tccr8 w c cs) 4 2 = c := by
  refine BitVec.eq_of_getLsbD_eq fun i hi => ?_
  simp only [tccr8, field, BitVec.getLsbD_append, BitVec.getLsbD_extractLsb']
  interval_cases i <;> simp

theorem tccr8_clock (w c : BitVec 2) (cs : BitVec 3) : field (tccr8 w c cs) 0 3 = cs := by
  refine BitVec.eq_of_getLsbD_eq fun i hi => ?_
  simp only [tccr8, field, BitVec.getLsbD_append, BitVec.getLsbD_extractLsb']
  interval_cases i <;> simp

theorem tccr8_noStrobe (w c : BitVec 2) (cs : BitVec 3) : (tccr8 w c cs).getLsbD 7 = false := by
  refine Bool.eq_false_iff.mpr fun h => ?_
  have hge := (getLsbD_seven_iff _).mp h
  rw [toNat_tccr8] at hge
  omega

/-- A control write of the byte of given fields strobes nothing. -/
theorem Timer8.writeTccr_tccr8 (t : Timer8) (w c : BitVec 2) (cs : BitVec 3) :
    t.writeTccr (tccr8 w c cs) = Timer8.modeChanged { t with wgm := w, com := c, cs := cs } := by
  unfold Timer8.writeTccr
  rw [tccr8_mode, tccr8_action, tccr8_clock, tccr8_noStrobe]
  rfl

theorem Timer8.modeChanged_of_follows {t : Timer8} (h : t.Follows) : t.modeChanged = t := by
  unfold Timer8.modeChanged
  split
  case isTrue hu => exact congrArg (fun v => { t with ocrAct := v }) (h hu).symm
  case isFalse => rfl

/-! ### The three read-modify-writes (R301, R304) -/

theorem tccr8_keep_clock (w c : BitVec 2) (cs cs' : BitVec 3) :
    (tccr8 w c cs &&& 0xF8#8) ||| tccr8 0#2 0#2 cs' = tccr8 w c cs' := by
  refine BitVec.eq_of_getLsbD_eq fun i hi => ?_
  simp only [tccr8, field, BitVec.getLsbD_or, BitVec.getLsbD_and, BitVec.getLsbD_append, BitVec.getLsbD_extractLsb']
  interval_cases i <;> simp

theorem tccr8_keep_mode (w w' c : BitVec 2) (cs : BitVec 3) :
    (tccr8 w c cs &&& 0xB7#8) ||| tccr8 w' 0#2 0#3 = tccr8 w' c cs := by
  refine BitVec.eq_of_getLsbD_eq fun i hi => ?_
  simp only [tccr8, field, BitVec.getLsbD_or, BitVec.getLsbD_and, BitVec.getLsbD_append, BitVec.getLsbD_extractLsb']
  interval_cases i <;> simp

theorem tccr8_keep_action (w c c' : BitVec 2) (cs : BitVec 3) :
    (tccr8 w c cs &&& 0xCF#8) ||| tccr8 0#2 c' 0#3 = tccr8 w c' cs := by
  refine BitVec.eq_of_getLsbD_eq fun i hi => ?_
  simp only [tccr8, field, BitVec.getLsbD_or, BitVec.getLsbD_and, BitVec.getLsbD_append, BitVec.getLsbD_extractLsb']
  interval_cases i <;> simp

/-- The bytes INIT and DISABLE put in. -/
theorem tccr8_of_clksel {clksel : BitVec 4} (h : clksel.toNat ≤ 7) :
    clksel.setWidth 8 = tccr8 0#2 0#2 (field clksel 0 3) := by
  refine BitVec.eq_of_toNat_eq ?_
  rw [toNat_tccr8, toNat_field, BitVec.toNat_setWidth]
  simp only [BitVec.toNat_ofNat]
  omega

theorem tccr8_of_mode (mode : BitVec 4) :
    0#1 ++ field mode 0 1 ++ 0#2 ++ field mode 1 1 ++ 0#3 = tccr8 (field mode 0 2) 0#2 0#3 := by
  refine BitVec.eq_of_toNat_eq ?_
  rw [toNat_tccr8]
  simp only [toNat_append_eq_add, toNat_field, BitVec.toNat_ofNat]
  omega

theorem tccr8_of_action (act : BitVec 2) : act.setWidth 8 <<< 4 = tccr8 0#2 act 0#3 := by
  decide +revert

/-! ### The state in the course of a call on Timer n -/

/-- s ready for a call, with Timer n as x, the byte b read, and the actions ms in progress. -/
def State.onTimer8 (s : State) (n : Timer8Id) (x : Timer8) (b : Byte) (ms : List Micro) : State :=
  { (s.doing ms).withTimer8 n x with rdata := b, shadow := false }

section Call
variable {s : State} (n : Timer8Id) (x : Timer8) (b : Byte) (ms : List Micro)

theorem Ready.onTimer8_quiet (h : Ready s) : Quiet (s.onTimer8 n x b ms) := by
  cases n <;> exact ⟨h.noFault, h.noRefusal, rfl, acceptEnabled_of_noRequest h.noRequest⟩

theorem onTimer8_pending : (s.onTimer8 n x b ms).pending = ms := by
  cases n <;> rfl

theorem Ready.onTimer8_nil (h : Ready s) :
    s.onTimer8 n x b [] = { s.withTimer8 n x with rdata := b, shadow := false, input := [] } := by
  unfold State.onTimer8
  rw [h.doing_nil]
  cases n <;> rfl

theorem microStep_rmw_onTimer8 (keep v : Byte) : microStep (.rmw (tccrOf n) keep v) (s.onTimer8 n x b ms) =
    .next (s.onTimer8 n x x.readTccr (.wr (tccrOf n) ((x.readTccr &&& keep) ||| v) :: ms)) := by
  cases n <;> rfl

theorem microStep_wr_onTimer8 (d : Byte) : microStep (.wr (tccrOf n) d) (s.onTimer8 n x b ms) =
    .next (s.onTimer8 n (x.writeTccr d) b ms) := by
  cases n <;> rfl

theorem microStep_initCom_onTimer8 (act : BitVec 2) : microStep (.initCom n act) (s.onTimer8 n x b ms) =
    .next (s.onTimer8 n x x.readTccr (initComWrite n act x.readTccr ++ ms)) := by
  cases n <;> rfl

variable {ms}

/-- A step in the course of a call. -/
theorem Ready.run_onTimer8 {k : Nat} {m : Micro} {t : State} {r : Result} (h : Ready s)
    (hm : microStep m (s.onTimer8 n x b ms) = .next t) (hr : runSteps k t = r) :
    runSteps (k + 1) (s.onTimer8 n x b (m :: ms)) = r := by
  refine (h.onTimer8_quiet n x b (m :: ms)).run (onTimer8_pending n x b _) ?_ hr
  cases n <;> exact hm

/-- A read-modify-write of TCCRn that gives it the fields w, c and cs. -/
theorem Ready.run_rmw8 {keep v : Byte} {w c : BitVec 2} {cs : BitVec 3} (h : Ready s)
    (hd : (x.readTccr &&& keep) ||| v = tccr8 w c cs) :
    runSteps 2 (s.onTimer8 n x b (.rmw (tccrOf n) keep v :: ms)) =
      .next (s.onTimer8 n (Timer8.modeChanged { x with wgm := w, com := c, cs := cs }) x.readTccr ms) := by
  refine h.run_onTimer8 n x b (microStep_rmw_onTimer8 n x b ms keep v) ?_
  rw [hd, ← Timer8.writeTccr_tccr8]
  exact h.run_onTimer8 n x _ (microStep_wr_onTimer8 n x _ ms _) rfl

variable {x}

/-- The clock select written. -/
theorem Ready.run_clock8 (h : Ready s) (hx : x.Follows) (cs : BitVec 3) :
    runSteps 2 (s.onTimer8 n x b (.rmw (tccrOf n) 0xF8#8 (tccr8 0#2 0#2 cs) :: ms)) =
      .next (s.onTimer8 n { x with cs := cs } x.readTccr ms) := by
  rw [h.run_rmw8 n x b (tccr8_keep_clock x.wgm x.com x.cs cs)]
  exact congrArg (fun y => Host.Outcome.next (s.onTimer8 n y _ _)) (Timer8.modeChanged_of_follows hx)

/-- The mode written: the active compare value follows in modes 0 and 2. -/
theorem Ready.run_mode8 (h : Ready s) (w : BitVec 2) :
    runSteps 2 (s.onTimer8 n x b (.rmw (tccrOf n) 0xB7#8 (tccr8 w 0#2 0#3) :: ms)) =
      .next (s.onTimer8 n (Timer8.modeChanged { x with wgm := w }) x.readTccr ms) :=
  h.run_rmw8 n x b (tccr8_keep_mode x.wgm w x.com x.cs)

/-- The action written. -/
theorem Ready.run_action8 (h : Ready s) (hx : x.Follows) (c : BitVec 2) :
    runSteps 2 (s.onTimer8 n x b (.rmw (tccrOf n) 0xCF#8 (tccr8 0#2 c 0#3) :: ms)) =
      .next (s.onTimer8 n { x with com := c } x.readTccr ms) := by
  rw [h.run_rmw8 n x b (tccr8_keep_action x.wgm x.com c x.cs)]
  exact congrArg (fun y => Host.Outcome.next (s.onTimer8 n y _ _)) (Timer8.modeChanged_of_follows hx)

/-- Step 4 of INIT, of an action valid in the mode then in the register. -/
theorem Ready.run_initCom_valid (h : Ready s) (hx : x.Follows) {act : BitVec 2} (hvalid : validCom8 x.wgm act = true) :
    runSteps 2 (s.onTimer8 n x b (.initCom n act :: ms)) =
      .next (s.onTimer8 n { x with com := act } x.readTccr ms) := by
  have hbyte : (x.readTccr &&& 0xCF#8) ||| (act.setWidth 8 <<< 4) = tccr8 x.wgm act x.cs := by
    rw [tccr8_of_action]
    exact tccr8_keep_action x.wgm x.com act x.cs
  refine h.run_onTimer8 n x b (microStep_initCom_onTimer8 n x b ms act) ?_
  rw [initComWrite, Timer8.readTccr_eq_tccr8, tccr8_mode, if_pos hvalid, ← Timer8.readTccr_eq_tccr8, hbyte]
  refine h.run_onTimer8 n x _ (microStep_wr_onTimer8 n x _ ms _) ?_
  rw [Timer8.writeTccr_tccr8]
  exact congrArg (fun y => Host.Outcome.next (s.onTimer8 n y _ _)) (Timer8.modeChanged_of_follows hx)

/-- Step 4 of INIT, of an action that is not. -/
theorem Ready.run_initCom_invalid (h : Ready s) {act : BitVec 2} (hvalid : ¬ validCom8 x.wgm act = true) :
    runSteps 1 (s.onTimer8 n x b (.initCom n act :: ms)) = .next (s.onTimer8 n x x.readTccr ms) := by
  refine h.run_onTimer8 n x b (microStep_initCom_onTimer8 n x b ms act) ?_
  rw [initComWrite, Timer8.readTccr_eq_tccr8, tccr8_mode, if_neg hvalid]
  rfl

end Call

/-! ### INIT (R301, R303) -/

/-- What each step of INIT makes of the timer: a value out of its enumeration skips the field. -/
def Timer8.initClock (x : Timer8) (clksel : BitVec 4) : Timer8 :=
  { x with cs := if clksel.toNat ≤ 7 then field clksel 0 3 else x.cs }

def Timer8.initMode (x : Timer8) (mode : BitVec 4) : Timer8 :=
  Timer8.modeChanged { x with wgm := if mode.toNat ≤ 3 then field mode 0 2 else x.wgm }

def Timer8.initAction (x : Timer8) (comact : BitVec 4) : Timer8 :=
  { x with com := if comact.toNat ≤ 3 ∧ validCom8 x.wgm (field comact 0 2) = true then field comact 0 2 else x.com }

/-- The timer after INIT. -/
def Timer8.initialised (x : Timer8) (d : Byte) (mode clksel comact : BitVec 4) : Timer8 :=
  (((x.writeTcnt d).initClock clksel).initMode mode).initAction comact

/-- The CPU actions of these steps. -/
def clockMicros (n : Timer8Id) (clksel : BitVec 4) : List Micro :=
  if clksel.toNat ≤ 7 then [.rmw (tccrOf n) 0xF8#8 (clksel.setWidth 8)] else []

def modeMicros (n : Timer8Id) (mode : BitVec 4) : List Micro :=
  if mode.toNat ≤ 3 then [.rmw (tccrOf n) 0xB7#8 (0#1 ++ field mode 0 1 ++ 0#2 ++ field mode 1 1 ++ 0#3)] else []

def actionMicros (n : Timer8Id) (comact : BitVec 4) : List Micro :=
  if comact.toNat ≤ 3 then [.initCom n (field comact 0 2)] else []

theorem initMicros8_eq (n : Timer8Id) (d : Byte) (mode clksel comact : BitVec 4) : initMicros8 n d mode clksel comact =
    .wr (tcntOf n) d :: (clockMicros n clksel ++ (modeMicros n mode ++ (actionMicros n comact ++ []))) := by
  simp only [initMicros8, clockMicros, modeMicros, actionMicros, List.append_assoc, List.append_nil]
  rfl

section Init
variable {s : State} (n : Timer8Id) {x : Timer8} (b : Byte) (ms : List Micro)

theorem Ready.run_initClock (h : Ready s) (hx : x.Follows) (clksel : BitVec 4) :
    ∃ k b', runSteps k (s.onTimer8 n x b (clockMicros n clksel ++ ms)) =
      .next (s.onTimer8 n (x.initClock clksel) b' ms) := by
  unfold clockMicros Timer8.initClock
  split
  case isTrue hle =>
    rw [tccr8_of_clksel hle]
    exact ⟨2, _, h.run_clock8 n b hx _⟩
  case isFalse => exact ⟨0, b, rfl⟩

theorem Ready.run_initMode (h : Ready s) (hx : x.Follows) (mode : BitVec 4) :
    ∃ k b', runSteps k (s.onTimer8 n x b (modeMicros n mode ++ ms)) =
      .next (s.onTimer8 n (x.initMode mode) b' ms) := by
  unfold modeMicros Timer8.initMode
  split
  case isTrue =>
    rw [tccr8_of_mode]
    exact ⟨2, _, h.run_mode8 n b _⟩
  case isFalse => exact ⟨0, b, congrArg (fun y => Host.Outcome.next (s.onTimer8 n y _ _))
    (Timer8.modeChanged_of_follows hx).symm⟩

theorem Ready.run_initAction (h : Ready s) (hx : x.Follows) (comact : BitVec 4) :
    ∃ k b', runSteps k (s.onTimer8 n x b (actionMicros n comact ++ ms)) =
      .next (s.onTimer8 n (x.initAction comact) b' ms) := by
  unfold actionMicros Timer8.initAction
  by_cases hle : comact.toNat ≤ 3
  · rw [if_pos hle]
    by_cases hvalid : validCom8 x.wgm (field comact 0 2) = true
    · rw [if_pos ⟨hle, hvalid⟩]
      exact ⟨2, _, h.run_initCom_valid n b hx hvalid⟩
    · rw [if_neg fun hc => hvalid hc.2]
      exact ⟨1, _, h.run_initCom_invalid n b hvalid⟩
  · rw [if_neg hle, if_neg fun hc => hle hc.1]
    exact ⟨0, b, rfl⟩

theorem State.timer8_follows (hs : CompareFollows s) : (s.timer8 n).Follows := by
  obtain ⟨h0, -, h2⟩ := compareFollows_iff.mp hs
  cases n
  · exact h0
  · exact h2

/-- The first step of INIT and of DELAY_MS. -/
theorem Ready.run_writeTcnt {k : Nat} {d : Byte} {r : Result} (h : Ready s)
    (hr : runSteps k (s.onTimer8 n ((s.timer8 n).writeTcnt d) s.rdata ms) = r) :
    runSteps (k + 1) (s.doing (.wr (tcntOf n) d :: ms)) = r := by
  refine (h.quiet _).run rfl ?_ hr
  cases n <;> rfl

theorem Ready.run_init8 (h : Ready s) (hf : CompareFollows s) (d : Byte) (mode clksel comact : BitVec 4) :
    ∃ k b', runSteps (k + 1) (s.doing (initMicros8 n d mode clksel comact)) =
      .next (s.onTimer8 n ((s.timer8 n).initialised d mode clksel comact) b' []) := by
  have hwrite : ((s.timer8 n).writeTcnt d).Follows := State.timer8_follows n hf
  obtain ⟨k₁, b₁, hclock⟩ := h.run_initClock n s.rdata (modeMicros n mode ++ (actionMicros n comact ++ []))
    hwrite clksel
  obtain ⟨k₂, b₂, hmode⟩ := h.run_initMode n b₁ (actionMicros n comact ++ [])
    (x := ((s.timer8 n).writeTcnt d).initClock clksel) hwrite mode
  obtain ⟨k₃, b₃, haction⟩ := h.run_initAction n b₂ [] (Timer8.modeChanged_follows _) comact
  refine ⟨k₁ + (k₂ + k₃), b₃, ?_⟩
  rw [initMicros8_eq]
  exact h.run_writeTcnt n _ (runSteps_trans hclock (runSteps_trans hmode haction))

end Init

/-- valid_com of an action in its enumeration, as R303 words it. -/
theorem validCom8_iff {comact : BitVec 4} (h : comact.toNat ≤ 3) (w : BitVec 2) :
    validCom8 w (field comact 0 2) = true ↔ (comact = 1#4 → w = 0#2 ∨ w = 2#2) := by
  revert comact w
  decide

theorem wellFormed_init8 {count : Half} (hcount : count.toNat ≤ 255) (n : Timer8Id) (mode clksel comact : BitVec 4) :
    (Instr.init (timerOf8 n) .a count mode clksel comact).wellFormed = true := by
  have hvalue := valueOk_of_le hcount (timerOf8 n)
  cases n <;> exact hvalue

theorem expand_init8 (n : Timer8Id) (count : Half) (mode clksel comact : BitVec 4) :
    expand (.init (timerOf8 n) .a count mode clksel comact) = initMicros8 n (loByte count) mode clksel comact := by
  cases n <;> rfl

/-- A call whose first action writes TCNTn, issued in any state. -/
theorem exec_of_expand_writeTcnt {i : Instr} {d : Byte} {ms : List Micro} {n : Timer8Id} (s : State)
    (hwf : i.wellFormed = true) (hbody : i.isBodyAction = true) (he : expand i = .wr (tcntOf n) d :: ms) :
    exec i s = .next
      { s.withTimer8 n ((s.timer8 n).writeTcnt d) with shadow := false, pending := ms ++ s.pending } := by
  refine exec_eq_of_expand hwf hbody he ?_
  cases n <;> rfl

theorem toNat_loByte_of_le {v : Half} (h : v.toNat ≤ 255) : (loByte v).toNat = v.toNat := by
  rw [loByte_eq_ofNat, BitVec.toNat_ofNat]
  omega

/-- Settles O51: the fields of `Timer8.initialised`, which `Ready.run_init8` reaches. -/
theorem initOfTimer8 : Obligations.InitOfTimer8 := by
  intro n count mode clksel comact s hcount
  have hwf := wellFormed_init8 hcount n mode clksel comact
  refine ⟨⟨loByte count, _, toNat_loByte_of_le hcount, exec_of_expand_writeTcnt s hwf rfl (expand_init8 ..)⟩,
    fun hs hf => ?run⟩
  obtain ⟨k, b, hrun⟩ := hs.run_init8 n hf (loByte count) mode clksel comact
  rw [← expand_init8, hs.onTimer8_nil] at hrun
  refine ⟨k + 1, _, (s.timer8 n).initialised (loByte count) mode clksel comact, hs.run_calling hwf rfl hrun, rfl,
    ?_⟩
  simp only [Timer8.initialised, Timer8.initAction, Timer8.initMode, Timer8.modeChanged_eq, Timer8.initClock]
  refine ⟨toNat_loByte_of_le hcount, rfl, ?cs, ?wgm, ?com, rfl, rfl, rfl, rfl⟩
  case cs =>
    split
    · rw [toNat_field]
      omega
    · rfl
  case wgm =>
    split
    · rw [toNat_field]
      omega
    · rfl
  case com =>
    rw [apply_ite BitVec.toNat, toNat_field]
    by_cases hle : comact.toNat ≤ 3
    · simp only [validCom8_iff hle]
      have hsame : comact.toNat / 2 ^ 0 % 2 ^ 2 = comact.toNat := by omega
      rw [hsame]
      rfl
    · rw [if_neg fun hc => hle hc.1, if_neg fun hc => hle hc.1]
      rfl

/-! ### DISABLE on Timer0 and Timer2 (R304) -/

/-- DISABLE in the course of a call. -/
theorem Ready.run_disable8 {s : State} (h : Ready s) (n : Timer8Id) {x : Timer8} (hx : x.Follows) (b : Byte) :
    ∃ b', runSteps 4 (s.onTimer8 n x b (disableMicros8 n)) =
      .next (s.onTimer8 n { x with cs := 0#3, com := 0#2 } b' []) :=
  ⟨_, runSteps_trans (h.run_clock8 n b hx 0#3) (h.run_action8 n _ (x := { x with cs := 0#3 }) hx 0#2)⟩

/-- Its first step does not look at the shadow. -/
theorem Ready.step_disable8 {s : State} (h : Ready s) (n : Timer8Id) :
    step (s.doing (disableMicros8 n)) = step (s.onTimer8 n (s.timer8 n) s.rdata (disableMicros8 n)) := by
  unfold disableMicros8
  rw [(h.quiet _).step_eq (m := .rmw (tccrOf n) 0xF8#8 0#8) rfl,
    (h.onTimer8_quiet n _ _ _).step_eq (m := .rmw (tccrOf n) 0xF8#8 0#8) (onTimer8_pending ..)]
  cases n <;> rfl

/-! ### DELAY_MS: the configuration (R320, R321) -/

/-- The timer DELAY_MS polls: Normal mode at clk_io/1 with no action, from count 0. -/
def Timer8.delaying (x : Timer8) : Timer8 :=
  { x with tcnt := 0#8, blk := true, wgm := 0#2, com := 0#2, cs := 1#3, ocrAct := x.ocrBuf }

theorem delayMicros_eq (n : Timer8Id) (period : BitVec 32) : delayMicros Config.fCpu n period =
    .wr (tcntOf n) 0#8 :: .rmw (tccrOf n) 0xF8#8 (tccr8 0#2 0#2 1#3) :: .rmw (tccrOf n) 0xB7#8 (tccr8 0#2 0#2 0#3) ::
      .initCom n 0#2 :: (pollMicros n (period.toNat * Config.fCpu / 256000) ++ disableMicros8 n) := rfl

theorem expand_delayMs (n : Timer8Id) (period : BitVec 32) :
    expand (.delayMs (timerOf8 n) period) = delayMicros Config.fCpu n period := by
  cases n <;> rfl

theorem wellFormed_delayMs (n : Timer8Id) (period : BitVec 32) :
    (Instr.delayMs (timerOf8 n) period).wellFormed = true := by
  cases n <;> rfl

theorem Ready.run_delayConfiguration {s : State} (h : Ready s) (hf : CompareFollows s) (n : Timer8Id)
    (ms : List Micro) : ∃ b, runSteps 7 (s.doing (.wr (tcntOf n) 0#8 :: .rmw (tccrOf n) 0xF8#8 (tccr8 0#2 0#2 1#3) ::
      .rmw (tccrOf n) 0xB7#8 (tccr8 0#2 0#2 0#3) :: .initCom n 0#2 :: ms)) =
    .next (s.onTimer8 n (s.timer8 n).delaying b ms) := by
  have hwrite : ((s.timer8 n).writeTcnt 0#8).Follows := State.timer8_follows n hf
  have hclock (rest : List Micro) := h.run_clock8 n s.rdata (ms := rest) hwrite 1#3
  have hmode (rest : List Micro) (b : Byte) := h.run_mode8 n b (ms := rest)
    (x := { (s.timer8 n).writeTcnt 0#8 with cs := 1#3 }) 0#2
  exact ⟨_, h.run_writeTcnt n _ (runSteps_trans (hclock _) (runSteps_trans (hmode _ _)
    (h.run_initCom_valid n _ (Timer8.modeChanged_follows _) rfl)))⟩

theorem Ready.run_delayMs {s : State} (h : Ready s) (hf : CompareFollows s) (n : Timer8Id) (period : BitVec 32) :
    ∃ b, runSteps 7 (s.calling (.delayMs (timerOf8 n) period)) = .next (s.onTimer8 n (s.timer8 n).delaying b
      (pollMicros n (period.toNat * Config.fCpu / 256000) ++ disableMicros8 n)) := by
  obtain ⟨b, hrun⟩ := h.run_delayConfiguration hf n
    (pollMicros n (period.toNat * Config.fCpu / 256000) ++ disableMicros8 n)
  rw [← delayMicros_eq, ← expand_delayMs] at hrun
  exact ⟨b, h.run_calling (wellFormed_delayMs n period) rfl hrun⟩

theorem onTimer8_eq (s : State) (n : Timer8Id) (x : Timer8) (b : Byte) (ms : List Micro) : s.onTimer8 n x b ms =
    { s.withTimer8 n x with rdata := b, shadow := false, input := [], pending := ms } := by
  cases n <;> rfl

/-- Settles O57: `Ready.run_delayMs`, and for a period of 0 the run of DISABLE behind it. -/
theorem delayMsSetsUpItsTimer : Obligations.DelayMsSetsUpItsTimer := by
  intro n period s
  refine ⟨⟨_, exec_of_expand_writeTcnt s (wellFormed_delayMs n period) rfl
    ((expand_delayMs n period).trans (delayMicros_eq n period))⟩, fun hs hf => ?run⟩
  obtain ⟨b, hrun⟩ := hs.run_delayMs hf n period
  refine ⟨⟨_, hrun, ?configured⟩, fun hzero => ?stopped⟩
  case configured =>
    rw [onTimer8_eq]
    rfl
  case stopped =>
    subst hzero
    have hpoll : pollMicros n ((0#32).toNat * Config.fCpu / 256000) = [] := by
      rw [BitVec.toNat_zero, Nat.zero_mul, Nat.zero_div]
      rfl
    rw [hpoll, List.nil_append] at hrun
    obtain ⟨b', hdisable⟩ := hs.run_disable8 n (x := (s.timer8 n).delaying) (fun _ => rfl) b
    refine ⟨_, runSteps_trans (k := 4) hrun hdisable, ?_⟩
    rw [hs.onTimer8_nil]
    rfl

end Sys2Proof.Machine
end

section
/-! PROOFS. The steps of INIT and DISABLE on Timer1 (spec 42_driver_config.md): a read-modify-write of TCCR1A or TCCR1B
changes one of its fields. With the 8-bit timers' DISABLE, O53. -/

namespace Sys2Proof.Machine

/-! ### The bytes of TCCR1A and TCCR1B by their fields -/

/-- TCCR1A of the actions a and b and the low mode bits lo (R170). -/
def tccr1a (a b lo : BitVec 2) : Byte := a ++ b ++ 0#2 ++ lo

/-- TCCR1B of the capture settings, the high mode bits hi and clock select cs (R172). -/
def tccr1b (nc es : Bool) (hi : BitVec 2) (cs : BitVec 3) : Byte :=
  BitVec.ofBool nc ++ BitVec.ofBool es ++ 0#1 ++ hi ++ cs

theorem Timer1.readTccrA_eq_tccr1a (t : Timer1) : t.readTccrA = tccr1a t.comA t.comB (field t.wgm 0 2) := rfl

theorem Timer1.readTccrB_eq_tccr1b (t : Timer1) : t.readTccrB = tccr1b t.icnc t.ices (field t.wgm 2 2) t.cs := rfl

theorem tccr1a_fields (a b lo : BitVec 2) :
    field (tccr1a a b lo) 6 2 = a ∧ field (tccr1a a b lo) 4 2 = b ∧ field (tccr1a a b lo) 0 2 = lo ∧
      (tccr1a a b lo).getLsbD 3 = false ∧ (tccr1a a b lo).getLsbD 2 = false := by
  decide +revert

theorem tccr1b_fields (nc es : Bool) (hi : BitVec 2) (cs : BitVec 3) :
    (tccr1b nc es hi cs).getLsbD 7 = nc ∧ (tccr1b nc es hi cs).getLsbD 6 = es ∧ field (tccr1b nc es hi cs) 3 2 = hi ∧
      field (tccr1b nc es hi cs) 0 3 = cs := by
  decide +revert

theorem field_high_append_low (w : BitVec 4) : field w 2 2 ++ field w 0 2 = w := by
  decide +revert

theorem field_append (hi lo : BitVec 2) : field (hi ++ lo) 2 2 = hi ∧ field (hi ++ lo) 0 2 = lo := by
  decide +revert

/-- A write of the byte of given fields strobes nothing. -/
theorem Timer1.writeTccrA_tccr1a (t : Timer1) (a b lo : BitVec 2) : t.writeTccrA (tccr1a a b lo) =
    Timer1.modeChanged { t with comA := a, comB := b, wgm := field t.wgm 2 2 ++ lo } := by
  obtain ⟨ha, hb, hlo, hfocA, hfocB⟩ := tccr1a_fields a b lo
  unfold Timer1.writeTccrA
  rw [ha, hb, hlo, hfocA, hfocB]
  rfl

theorem Timer1.writeTccrB_tccr1b (t : Timer1) (nc es : Bool) (hi : BitVec 2) (cs : BitVec 3) :
    t.writeTccrB (tccr1b nc es hi cs) =
      Timer1.modeChanged { t with icnc := nc, ices := es, wgm := hi ++ field t.wgm 0 2, cs := cs } := by
  obtain ⟨hnc, hes, hhi, hcs⟩ := tccr1b_fields nc es hi cs
  unfold Timer1.writeTccrB
  rw [hnc, hes, hhi, hcs]

theorem Timer1.modeChanged_of_follows {t : Timer1} (h : t.Follows) : t.modeChanged = t := by
  unfold Timer1.modeChanged
  split
  case isTrue hu =>
    obtain ⟨hA, hB⟩ := h hu
    exact congr (congrArg (fun a b => { t with ocrAAct := a, ocrBAct := b }) hA.symm) hB.symm
  case isFalse => rfl

/-! ### The read-modify-writes (R302, R304) -/

theorem tccr1b_keep_clock (nc es : Bool) (hi : BitVec 2) (cs cs' : BitVec 3) :
    (tccr1b nc es hi cs &&& 0xF8#8) ||| tccr1b false false 0#2 cs' = tccr1b nc es hi cs' := by
  refine BitVec.eq_of_getLsbD_eq fun i hi => ?_
  simp only [tccr1b, BitVec.getLsbD_or, BitVec.getLsbD_and, BitVec.getLsbD_append, BitVec.getLsbD_ofBool]
  interval_cases i <;> simp

theorem tccr1b_keep_high (nc es : Bool) (hi hi' : BitVec 2) (cs : BitVec 3) :
    (tccr1b nc es hi cs &&& 0xE7#8) ||| tccr1b false false hi' 0#3 = tccr1b nc es hi' cs := by
  refine BitVec.eq_of_getLsbD_eq fun i hi => ?_
  simp only [tccr1b, BitVec.getLsbD_or, BitVec.getLsbD_and, BitVec.getLsbD_append, BitVec.getLsbD_ofBool]
  interval_cases i <;> simp

theorem tccr1a_keep_low (a b lo lo' : BitVec 2) :
    (tccr1a a b lo &&& 0xFC#8) ||| tccr1a 0#2 0#2 lo' = tccr1a a b lo' := by
  decide +revert

theorem tccr1a_keep_mode (a b lo : BitVec 2) : (tccr1a a b lo &&& 0x0F#8) ||| 0#8 = tccr1a 0#2 0#2 lo := by
  decide +revert

theorem tccr1a_keep_comB (a b lo act : BitVec 2) :
    (tccr1a a b lo &&& ~~~(3#8 <<< comShift .a)) ||| (act.setWidth 8 <<< comShift .a) = tccr1a act b lo := by
  decide +revert

theorem tccr1a_keep_comA (a b lo act : BitVec 2) :
    (tccr1a a b lo &&& ~~~(3#8 <<< comShift .b)) ||| (act.setWidth 8 <<< comShift .b) = tccr1a a act lo := by
  decide +revert

/-- The bytes INIT puts in. -/
theorem tccr1b_of_clksel {clksel : BitVec 4} (h : clksel.toNat ≤ 7) :
    clksel.setWidth 8 = tccr1b false false 0#2 (field clksel 0 3) := by
  revert clksel
  decide

theorem tccr1b_of_mode (mode : BitVec 4) :
    0#3 ++ field mode 2 2 ++ 0#3 = tccr1b false false (field mode 2 2) 0#3 := by
  decide +revert

theorem tccr1a_of_mode (mode : BitVec 4) : 0#6 ++ field mode 0 2 = tccr1a 0#2 0#2 (field mode 0 2) := by
  decide +revert

/-- The timer with the action of unit u as act. -/
def Timer1.withCom (x : Timer1) (u : CmpUnit) (act : BitVec 2) : Timer1 :=
  match u with
  | .a => { x with comA := act }
  | .b => { x with comB := act }

/-- The write that ends step 4 of INIT changes the action of u only. -/
theorem Timer1.writeTccrA_withCom {x : Timer1} (hx : x.Follows) (u : CmpUnit) (act : BitVec 2) :
    x.writeTccrA ((x.readTccrA &&& ~~~(3#8 <<< comShift u)) ||| (act.setWidth 8 <<< comShift u)) =
      x.withCom u act := by
  rw [Timer1.readTccrA_eq_tccr1a]
  cases u with
  | a =>
    rw [tccr1a_keep_comB, Timer1.writeTccrA_tccr1a, field_high_append_low]
    exact Timer1.modeChanged_of_follows hx
  | b =>
    rw [tccr1a_keep_comA, Timer1.writeTccrA_tccr1a, field_high_append_low]
    exact Timer1.modeChanged_of_follows hx

/-! ### The state in the course of a call on Timer1 -/

/-- s ready for a call, with Timer1 as x, the byte b read, and the actions ms in progress. -/
def State.onTimer1 (s : State) (x : Timer1) (b : Byte) (ms : List Micro) : State :=
  { s.doing ms with t1 := x, rdata := b, shadow := false }

section Call
variable {s : State} (x : Timer1) (b : Byte) (ms : List Micro)

theorem Ready.onTimer1_quiet (h : Ready s) : Quiet (s.onTimer1 x b ms) :=
  ⟨h.noFault, h.noRefusal, rfl, acceptEnabled_of_noRequest h.noRequest⟩

theorem Ready.onTimer1_nil (h : Ready s) :
    s.onTimer1 x b [] = { s with t1 := x, rdata := b, shadow := false, input := [] } := by
  unfold State.onTimer1
  rw [h.doing_nil]

variable {ms}

/-- A step in the course of a call. -/
theorem Ready.run_onTimer1 {k : Nat} {m : Micro} {t : State} {r : Result} (h : Ready s)
    (hm : microStep m (s.onTimer1 x b ms) = .next t) (hr : runSteps k t = r) :
    runSteps (k + 1) (s.onTimer1 x b (m :: ms)) = r :=
  (h.onTimer1_quiet x b (m :: ms)).run rfl hm hr

theorem microStep_rmwA_onTimer1 (keep v : Byte) : microStep (.rmw .tccr1a keep v) (s.onTimer1 x b ms) =
    .next (s.onTimer1 x x.readTccrA (.wr .tccr1a ((x.readTccrA &&& keep) ||| v) :: ms)) := rfl

theorem microStep_rmwB_onTimer1 (keep v : Byte) : microStep (.rmw .tccr1b keep v) (s.onTimer1 x b ms) =
    .next (s.onTimer1 x x.readTccrB (.wr .tccr1b ((x.readTccrB &&& keep) ||| v) :: ms)) := rfl

theorem microStep_wrA_onTimer1 (d : Byte) : microStep (.wr .tccr1a d) (s.onTimer1 x b ms) =
    .next (s.onTimer1 (x.writeTccrA d) b ms) := rfl

theorem microStep_wrB_onTimer1 (d : Byte) : microStep (.wr .tccr1b d) (s.onTimer1 x b ms) =
    .next (s.onTimer1 (x.writeTccrB d) b ms) := rfl

/-- A read-modify-write of TCCR1A that gives it given fields. -/
theorem Ready.run_rmw1a {keep v : Byte} {cA cB lo : BitVec 2} (h : Ready s)
    (hd : (x.readTccrA &&& keep) ||| v = tccr1a cA cB lo) :
    runSteps 2 (s.onTimer1 x b (.rmw .tccr1a keep v :: ms)) = .next (s.onTimer1
      (Timer1.modeChanged { x with comA := cA, comB := cB, wgm := field x.wgm 2 2 ++ lo }) x.readTccrA ms) := by
  refine h.run_onTimer1 x b (microStep_rmwA_onTimer1 x b keep v) ?_
  rw [hd, ← Timer1.writeTccrA_tccr1a]
  exact h.run_onTimer1 x _ (microStep_wrA_onTimer1 x _ _) rfl

/-- A read-modify-write of TCCR1B that gives it given fields. -/
theorem Ready.run_rmw1b {keep v : Byte} {nc es : Bool} {hi : BitVec 2} {cs : BitVec 3} (h : Ready s)
    (hd : (x.readTccrB &&& keep) ||| v = tccr1b nc es hi cs) :
    runSteps 2 (s.onTimer1 x b (.rmw .tccr1b keep v :: ms)) = .next (s.onTimer1
      (Timer1.modeChanged { x with icnc := nc, ices := es, wgm := hi ++ field x.wgm 0 2, cs := cs }) x.readTccrB
      ms) := by
  refine h.run_onTimer1 x b (microStep_rmwB_onTimer1 x b keep v) ?_
  rw [hd, ← Timer1.writeTccrB_tccr1b]
  exact h.run_onTimer1 x _ (microStep_wrB_onTimer1 x _ _) rfl

variable {x}

/-- The clock select written. -/
theorem Ready.run_clock1 (h : Ready s) (hx : x.Follows) (cs : BitVec 3) :
    runSteps 2 (s.onTimer1 x b (.rmw .tccr1b 0xF8#8 (tccr1b false false 0#2 cs) :: ms)) =
      .next (s.onTimer1 { x with cs := cs } x.readTccrB ms) := by
  rw [h.run_rmw1b x b (tccr1b_keep_clock x.icnc x.ices (field x.wgm 2 2) x.cs cs), field_high_append_low]
  exact congrArg (fun y => Host.Outcome.next (s.onTimer1 y _ _)) (Timer1.modeChanged_of_follows hx)

/-- The low mode bits written. -/
theorem Ready.run_lowMode1 (h : Ready s) (lo : BitVec 2) :
    runSteps 2 (s.onTimer1 x b (.rmw .tccr1a 0xFC#8 (tccr1a 0#2 0#2 lo) :: ms)) =
      .next (s.onTimer1 (Timer1.modeChanged { x with wgm := field x.wgm 2 2 ++ lo }) x.readTccrA ms) :=
  h.run_rmw1a x b (tccr1a_keep_low x.comA x.comB (field x.wgm 0 2) lo)

/-- The high mode bits written. -/
theorem Ready.run_highMode1 (h : Ready s) (hi : BitVec 2) :
    runSteps 2 (s.onTimer1 x b (.rmw .tccr1b 0xE7#8 (tccr1b false false hi 0#3) :: ms)) =
      .next (s.onTimer1 (Timer1.modeChanged { x with wgm := hi ++ field x.wgm 0 2 }) x.readTccrB ms) :=
  h.run_rmw1b x b (tccr1b_keep_high x.icnc x.ices (field x.wgm 2 2) hi x.cs)

/-- Both units disconnected. -/
theorem Ready.run_disconnect1 (h : Ready s) (hx : x.Follows) :
    runSteps 2 (s.onTimer1 x b (.rmw .tccr1a 0x0F#8 0#8 :: ms)) =
      .next (s.onTimer1 { x with comA := 0#2, comB := 0#2 } x.readTccrA ms) := by
  rw [h.run_rmw1a x b (tccr1a_keep_mode x.comA x.comB (field x.wgm 0 2)), field_high_append_low]
  exact congrArg (fun y => Host.Outcome.next (s.onTimer1 y _ _)) (Timer1.modeChanged_of_follows hx)

variable (x) in
theorem microStep_initCom1A_onTimer1 (u : CmpUnit) (act : BitVec 2) (w : Byte) :
    microStep (.initCom1A u act w) (s.onTimer1 x b ms) =
      .next (s.onTimer1 x x.readTccrA (initCom1Write u act w x.readTccrA ++ ms)) := rfl

/-- valid_com of the mode that the two bytes hold. -/
theorem initCom1Write_read (u : CmpUnit) (act : BitVec 2) : initCom1Write u act x.readTccrB x.readTccrA =
    if validCom1 x.wgm act then
      [.wr .tccr1a ((x.readTccrA &&& ~~~(3#8 <<< comShift u)) ||| (act.setWidth 8 <<< comShift u))] else [] := by
  obtain ⟨-, -, hhi, -⟩ := tccr1b_fields x.icnc x.ices (field x.wgm 2 2) x.cs
  obtain ⟨-, -, hlo, -, -⟩ := tccr1a_fields x.comA x.comB (field x.wgm 0 2)
  rw [← Timer1.readTccrB_eq_tccr1b] at hhi
  rw [← Timer1.readTccrA_eq_tccr1a] at hlo
  rw [initCom1Write, hhi, hlo, field_high_append_low]

/-- Step 4 of INIT reads both registers. -/
theorem Ready.run_initCom1 {k : Nat} {u : CmpUnit} {act : BitVec 2} {r : Result} (h : Ready s)
    (hr : runSteps k (s.onTimer1 x x.readTccrA (initCom1Write u act x.readTccrB x.readTccrA ++ ms)) = r) :
    runSteps (k + 2) (s.onTimer1 x b (.initCom1 u act :: ms)) = r :=
  h.run_onTimer1 x b rfl (h.run_onTimer1 x x.readTccrB (microStep_initCom1A_onTimer1 x _ u act _) hr)

theorem Ready.run_initCom1_valid (h : Ready s) (hx : x.Follows) {u : CmpUnit} {act : BitVec 2}
    (hvalid : validCom1 x.wgm act = true) :
    runSteps 3 (s.onTimer1 x b (.initCom1 u act :: ms)) = .next (s.onTimer1 (x.withCom u act) x.readTccrA ms) := by
  refine h.run_initCom1 b (k := 1) ?_
  rw [initCom1Write_read, if_pos hvalid, ← Timer1.writeTccrA_withCom hx]
  exact h.run_onTimer1 x _ (microStep_wrA_onTimer1 x _ _) rfl

theorem Ready.run_initCom1_invalid (h : Ready s) {u : CmpUnit} {act : BitVec 2}
    (hvalid : ¬ validCom1 x.wgm act = true) :
    runSteps 2 (s.onTimer1 x b (.initCom1 u act :: ms)) = .next (s.onTimer1 x x.readTccrA ms) := by
  refine h.run_initCom1 b (k := 0) ?_
  rw [initCom1Write_read, if_neg hvalid]
  rfl

end Call

/-! ### DISABLE (R304) -/

theorem Ready.step_disable1 {s : State} (h : Ready s) :
    step (s.doing (expand (.disable .t1))) = step (s.onTimer1 s.t1 s.rdata (expand (.disable .t1))) :=
  (h.quiet _).step_eq (m := .rmw .tccr1b 0xF8#8 0#8) rfl |>.trans
    ((h.onTimer1_quiet s.t1 s.rdata _).step_eq (m := .rmw .tccr1b 0xF8#8 0#8) rfl).symm

theorem wellFormed_disable8 (n : Timer8Id) :
    (Instr.disable (timerOf8 n)).wellFormed = true ∧ expand (.disable (timerOf8 n)) = disableMicros8 n := by
  cases n <;> exact ⟨rfl, rfl⟩

theorem Ready.run_callDisable8 {s : State} (h : Ready s) (hf : CompareFollows s) (n : Timer8Id) :
    ∃ b, runSteps 4 (s.calling (.disable (timerOf8 n))) =
      .next (s.onTimer8 n { s.timer8 n with cs := 0#3, com := 0#2 } b []) := by
  obtain ⟨hwf, hexpand⟩ := wellFormed_disable8 n
  obtain ⟨b, hrun⟩ := h.run_disable8 n (State.timer8_follows n hf) s.rdata
  refine ⟨b, h.run_calling hwf rfl ?_⟩
  rw [hexpand, runSteps_congr (h.step_disable8 n), hrun]

theorem Ready.run_callDisable1 {s : State} (h : Ready s) (hf : s.t1.Follows) :
    ∃ b, runSteps 4 (s.calling (.disable .t1)) =
      .next (s.onTimer1 { s.t1 with cs := 0#3, comA := 0#2, comB := 0#2 } b []) := by
  have hrun := runSteps_trans (h.run_clock1 s.rdata hf 0#3)
    (h.run_disconnect1 (x := { s.t1 with cs := 0#3 }) (ms := []) _ hf)
  exact ⟨_, h.run_calling rfl rfl ((runSteps_congr h.step_disable1).trans hrun)⟩

/-! The first action of DISABLE, issued in any state: the register with the clock select is read. -/

theorem exec_disable8 (n : Timer8Id) (s : State) : ∃ ms, exec (.disable (timerOf8 n)) s =
    .next { s with rdata := s.readValue (tccrOf n), shadow := false, pending := ms ++ s.pending } := by
  obtain ⟨hwf, hexpand⟩ := wellFormed_disable8 n
  refine ⟨[.wr (tccrOf n) ((s.readValue (tccrOf n) &&& 0xF8#8) ||| 0#8), .rmw (tccrOf n) 0xCF#8 0#8],
    exec_eq_of_expand hwf rfl hexpand ?_⟩
  rw [microStep_rmw]
  cases n <;> rfl

theorem exec_disable1 (s : State) : ∃ ms, exec (.disable .t1) s =
    .next { s with rdata := s.readValue .tccr1b, shadow := false, pending := ms ++ s.pending } := by
  refine ⟨[.wr .tccr1b ((s.readValue .tccr1b &&& 0xF8#8) ||| 0#8), .rmw .tccr1a 0x0F#8 0#8],
    exec_eq_of_expand (m := .rmw .tccr1b 0xF8#8 0#8) (ms := [.rmw .tccr1a 0x0F#8 0#8]) rfl rfl rfl ?_⟩
  rw [microStep_rmw]
  rfl

/-- Settles O53: on each timer the two read-modify-writes, of which the second leaves the mode. -/
theorem disableStopsTheTimer : Obligations.DisableStopsTheTimer := by
  intro s
  refine ⟨fun n => exec_disable8 n s, exec_disable1 s, fun hs hf => ⟨fun n => ?run8, ?run1⟩⟩
  case run8 =>
    obtain ⟨b, hrun⟩ := hs.run_callDisable8 hf n
    refine ⟨_, hrun, ?_⟩
    rw [hs.onTimer8_nil]
  case run1 =>
    obtain ⟨-, ht, -⟩ := compareFollows_iff.mp hf
    obtain ⟨b, hrun⟩ := hs.run_callDisable1 ht
    refine ⟨_, hrun, ?_⟩
    rw [hs.onTimer1_nil]

end Sys2Proof.Machine
end

section
/-! PROOFS. INIT on Timer1 (spec 42_driver_config.md R302, R303): O52. -/

namespace Sys2Proof.Machine

/-! ### What each step of INIT makes of Timer1 -/

/-- The counter written, high byte through TEMP1. -/
def Timer1.counterLoaded (x : Timer1) (count : Half) : Timer1 :=
  { x with temp := hiByte count, tcnt := count, blk := true }

def Timer1.initClock (x : Timer1) (clksel : BitVec 4) : Timer1 :=
  { x with cs := if clksel.toNat ≤ 7 then field clksel 0 3 else x.cs }

/-- The low mode bits, then the high ones (R455); mode 13 skips both. -/
def Timer1.initMode (x : Timer1) (mode : BitVec 4) : Timer1 :=
  if mode ≠ 13#4 then
    Timer1.modeChanged { Timer1.modeChanged { x with wgm := field x.wgm 2 2 ++ field mode 0 2 } with wgm := mode }
  else x

def Timer1.initAction (x : Timer1) (u : CmpUnit) (comact : BitVec 4) : Timer1 :=
  if comact.toNat ≤ 3 ∧ validCom1 x.wgm (field comact 0 2) = true then x.withCom u (field comact 0 2) else x

/-- The timer after INIT. -/
def Timer1.initialised (x : Timer1) (u : CmpUnit) (count : Half) (mode clksel comact : BitVec 4) : Timer1 :=
  (((x.counterLoaded count).initClock clksel).initMode mode).initAction u comact

theorem Timer1.initMode_follows {x : Timer1} (hx : x.Follows) (mode : BitVec 4) : (x.initMode mode).Follows := by
  unfold Timer1.initMode
  split
  case isTrue => exact Timer1.modeChanged_follows _
  case isFalse => exact hx

/-- The CPU actions of these steps. -/
def clockMicros1 (clksel : BitVec 4) : List Micro :=
  if clksel.toNat ≤ 7 then [.rmw .tccr1b 0xF8#8 (clksel.setWidth 8)] else []

def modeMicros1 (mode : BitVec 4) : List Micro :=
  if mode ≠ 13#4 then
    [.rmw .tccr1a 0xFC#8 (0#6 ++ field mode 0 2), .rmw .tccr1b 0xE7#8 (0#3 ++ field mode 2 2 ++ 0#3)] else []

def actionMicros1 (u : CmpUnit) (comact : BitVec 4) : List Micro :=
  if comact.toNat ≤ 3 then [.initCom1 u (field comact 0 2)] else []

theorem initMicros1_eq (u : CmpUnit) (count : Half) (mode clksel comact : BitVec 4) :
    initMicros1 u count mode clksel comact = .wr .tcnt1h (hiByte count) :: .wr .tcnt1l (loByte count) ::
      (clockMicros1 clksel ++ (modeMicros1 mode ++ (actionMicros1 u comact ++ []))) := by
  simp only [initMicros1, clockMicros1, modeMicros1, actionMicros1, List.append_assoc, List.append_nil]
  rfl

section Init
variable {s : State} {x : Timer1} (b : Byte) (ms : List Micro)

theorem Ready.run_initClock1 (h : Ready s) (hx : x.Follows) (clksel : BitVec 4) :
    ∃ k b', runSteps k (s.onTimer1 x b (clockMicros1 clksel ++ ms)) =
      .next (s.onTimer1 (x.initClock clksel) b' ms) := by
  unfold clockMicros1 Timer1.initClock
  split
  case isTrue hle =>
    rw [tccr1b_of_clksel hle]
    exact ⟨2, _, h.run_clock1 b hx _⟩
  case isFalse => exact ⟨0, b, rfl⟩

theorem Ready.run_initMode1 (h : Ready s) (mode : BitVec 4) :
    ∃ k b', runSteps k (s.onTimer1 x b (modeMicros1 mode ++ ms)) = .next (s.onTimer1 (x.initMode mode) b' ms) := by
  unfold modeMicros1 Timer1.initMode
  split
  case isTrue =>
    have hlow := h.run_lowMode1 (x := x) b
      (ms := .rmw .tccr1b 0xE7#8 (0#3 ++ field mode 2 2 ++ 0#3) :: ms) (field mode 0 2)
    have hhigh := h.run_highMode1 (ms := ms) x.readTccrA
      (x := Timer1.modeChanged { x with wgm := field x.wgm 2 2 ++ field mode 0 2 }) (field mode 2 2)
    have hwgm : field mode 2 2 ++ field
        (Timer1.modeChanged { x with wgm := field x.wgm 2 2 ++ field mode 0 2 }).wgm 0 2 = mode := by
      obtain ⟨-, hfield⟩ := field_append (field x.wgm 2 2) (field mode 0 2)
      rw [Timer1.modeChanged_eq, hfield, field_high_append_low]
    rw [hwgm] at hhigh
    rw [tccr1a_of_mode, tccr1b_of_mode]
    rw [tccr1b_of_mode] at hlow
    exact ⟨4, _, runSteps_trans hlow hhigh⟩
  case isFalse => exact ⟨0, b, rfl⟩

theorem Ready.run_initAction1 (h : Ready s) (hx : x.Follows) (u : CmpUnit) (comact : BitVec 4) :
    ∃ k b', runSteps k (s.onTimer1 x b (actionMicros1 u comact ++ ms)) =
      .next (s.onTimer1 (x.initAction u comact) b' ms) := by
  unfold actionMicros1 Timer1.initAction
  by_cases hle : comact.toNat ≤ 3
  · rw [if_pos hle]
    by_cases hvalid : validCom1 x.wgm (field comact 0 2) = true
    · rw [if_pos ⟨hle, hvalid⟩]
      exact ⟨3, _, h.run_initCom1_valid b hx hvalid⟩
    · rw [if_neg fun hc => hvalid hc.2]
      exact ⟨2, _, h.run_initCom1_invalid b hvalid⟩
  · rw [if_neg hle, if_neg fun hc => hle hc.1]
    exact ⟨0, b, rfl⟩

/-- The first two steps of INIT. -/
theorem Ready.run_writeTcnt1 {k : Nat} {r : Result} (h : Ready s) (count : Half)
    (hr : runSteps k (s.onTimer1 (s.t1.counterLoaded count) s.rdata ms) = r) :
    runSteps (k + 2) (s.doing (.wr .tcnt1h (hiByte count) :: .wr .tcnt1l (loByte count) :: ms)) = r := by
  have hlow : microStep (.wr .tcnt1l (loByte count)) (s.onTimer1 { s.t1 with temp := hiByte count } s.rdata ms) =
      .next (s.onTimer1 { s.t1 with temp := hiByte count, tcnt := pair (hiByte count) (loByte count), blk := true }
        s.rdata ms) := rfl
  rw [pair_hiByte_loByte] at hlow
  exact (h.quiet _).run rfl rfl (h.run_onTimer1 { s.t1 with temp := hiByte count } s.rdata hlow hr)

theorem Ready.run_init1 (h : Ready s) (hf : s.t1.Follows) (u : CmpUnit) (count : Half) (mode clksel comact : BitVec 4) :
    ∃ k b', runSteps (k + 2) (s.doing (initMicros1 u count mode clksel comact)) =
      .next (s.onTimer1 (s.t1.initialised u count mode clksel comact) b' []) := by
  have hwrite : ((s.t1.counterLoaded count).initClock clksel).Follows := hf
  obtain ⟨k₁, b₁, hclock⟩ := h.run_initClock1 (x := s.t1.counterLoaded count) s.rdata
    (modeMicros1 mode ++ (actionMicros1 u comact ++ [])) hf clksel
  obtain ⟨k₂, b₂, hmode⟩ := h.run_initMode1 b₁ (actionMicros1 u comact ++ []) mode
  obtain ⟨k₃, b₃, haction⟩ := h.run_initAction1 b₂ [] (Timer1.initMode_follows hwrite mode) u comact
  refine ⟨k₁ + (k₂ + k₃), b₃, ?_⟩
  rw [initMicros1_eq]
  exact h.run_writeTcnt1 _ count (runSteps_trans hclock (runSteps_trans hmode haction))

end Init

/-! ### The fields after INIT -/

/-- valid_com of an action in its enumeration, as R303 words it. -/
theorem validCom1_iff {comact : BitVec 4} (h : comact.toNat ≤ 3) (w : BitVec 4) :
    validCom1 w (field comact 0 2) = true ↔ (comact = 1#4 → w ∈ [0#4, 4#4, 12#4]) := by
  revert comact w
  decide

theorem Timer1.initMode_wgm (x : Timer1) (mode : BitVec 4) :
    (x.initMode mode).wgm = if mode ≠ 13#4 then mode else x.wgm := by
  unfold Timer1.initMode
  split
  case isTrue => rw [Timer1.modeChanged_eq]
  case isFalse => rfl

/-- The active compare values are loaded in the intermediate mode or in the new one (R455). -/
theorem Timer1.initMode_compare (x : Timer1) {mode mid : BitVec 4} (hmid : field x.wgm 2 2 ++ field mode 0 2 = mid) :
    (mode ≠ 13#4 ∧ (mid ∈ [0#4, 4#4, 12#4, 13#4] ∨ mode ∈ [0#4, 4#4, 12#4, 13#4]) →
      (x.initMode mode).ocrAAct = x.ocrABuf ∧ (x.initMode mode).ocrBAct = x.ocrBBuf) ∧
    (mode = 13#4 ∨ (mid ∉ [0#4, 4#4, 12#4, 13#4] ∧ mode ∉ [0#4, 4#4, 12#4, 13#4]) →
      (x.initMode mode).ocrAAct = x.ocrAAct ∧ (x.initMode mode).ocrBAct = x.ocrBAct) := by
  unfold Timer1.initMode
  simp only [hmid, Timer1.modeChanged_eq]
  refine ⟨fun ⟨hmode, hload⟩ => ?loaded, fun hkept => ?kept⟩
  case loaded =>
    rw [if_pos hmode]
    by_cases hnew : mode ∈ [0#4, 4#4, 12#4, 13#4]
    · exact ⟨if_pos hnew, if_pos hnew⟩
    · have hold := hload.resolve_right hnew
      exact ⟨(if_neg hnew).trans (if_pos hold), (if_neg hnew).trans (if_pos hold)⟩
  case kept =>
    by_cases hmode : mode = 13#4
    · rw [if_neg (not_not_intro hmode)]
      exact ⟨rfl, rfl⟩
    · obtain ⟨hold, hnew⟩ := hkept.resolve_left hmode
      rw [if_pos hmode]
      exact ⟨(if_neg hnew).trans (if_neg hold), (if_neg hnew).trans (if_neg hold)⟩

/-- INIT's mode step leaves all but the mode and the active compare values. -/
theorem Timer1.initMode_eq (x : Timer1) (mode : BitVec 4) : x.initMode mode = { x with
    wgm := (x.initMode mode).wgm, ocrAAct := (x.initMode mode).ocrAAct, ocrBAct := (x.initMode mode).ocrBAct } := by
  unfold Timer1.initMode
  split
  case isTrue => simp only [Timer1.modeChanged_eq]
  case isFalse => rfl

/-- INIT's action step writes one unit's action, and no other field. -/
theorem Timer1.initAction_eq (x : Timer1) (u : CmpUnit) (comact : BitVec 4) : x.initAction u comact = { x with
    comA := (x.initAction u comact).comA, comB := (x.initAction u comact).comB } := by
  unfold Timer1.initAction Timer1.withCom
  split <;> cases u <;> rfl

theorem Timer1.initAction_com (x : Timer1) (u : CmpUnit) (comact : BitVec 4) :
    (x.initAction u comact).comA.toNat = (if u = .a ∧ comact.toNat ≤ 3 ∧
      (comact = 1#4 → x.wgm ∈ [0#4, 4#4, 12#4]) then comact.toNat else x.comA.toNat) ∧
    (x.initAction u comact).comB.toNat = (if u = .b ∧ comact.toNat ≤ 3 ∧
      (comact = 1#4 → x.wgm ∈ [0#4, 4#4, 12#4]) then comact.toNat else x.comB.toNat) := by
  unfold Timer1.initAction
  by_cases hok : comact.toNat ≤ 3 ∧ validCom1 x.wgm (field comact 0 2) = true
  · rw [if_pos hok]
    obtain ⟨hle, hvalid⟩ := hok
    have hfield : (field comact 0 2).toNat = comact.toNat := by
      rw [toNat_field]
      omega
    have hcom := (validCom1_iff hle _).mp hvalid
    cases u with
    | a => exact ⟨hfield.trans (if_pos ⟨rfl, hle, hcom⟩).symm, (if_neg fun hc => nomatch hc.1).symm⟩
    | b => exact ⟨(if_neg fun hc => nomatch hc.1).symm, hfield.trans (if_pos ⟨rfl, hle, hcom⟩).symm⟩
  · have hno (v : CmpUnit) : ¬ (u = v ∧ comact.toNat ≤ 3 ∧ (comact = 1#4 → x.wgm ∈ [0#4, 4#4, 12#4])) :=
      fun ⟨_, hle, hcom⟩ => hok ⟨hle, (validCom1_iff hle _).mpr hcom⟩
    rw [if_neg hok, if_neg (hno .a), if_neg (hno .b)]
    exact ⟨rfl, rfl⟩

/-- The intermediate mode has the old high bits and the new low bits (R455). -/
theorem field_append_eq_of_toNat {w mode mid : BitVec 4} (h : mid.toNat = 4 * (w.toNat / 4) + mode.toNat % 4) :
    field w 2 2 ++ field mode 0 2 = mid := by
  refine BitVec.eq_of_toNat_eq ?_
  simp only [toNat_append_eq_add, toNat_field]
  omega

theorem toNat_hiByte (v : Half) : (hiByte v).toNat = v.toNat / 256 := by
  rw [hiByte_eq_ofNat, BitVec.toNat_ofNat]
  omega

/-- Settles O52: the fields of `Timer1.initialised`, which `Ready.run_init1` reaches. -/
theorem initOfTimer1 : Obligations.InitOfTimer1 := by
  intro u count mode clksel comact mid s hmid
  have hwf : (Instr.init .t1 u count mode clksel comact).wellFormed = true := by
    cases u <;> rfl
  refine ⟨⟨hiByte count, _, toNat_hiByte count, exec_eq_of_expand hwf rfl (initMicros1_eq ..) rfl⟩, fun hs hf => ?run⟩
  obtain ⟨-, ht, -⟩ := compareFollows_iff.mp hf
  obtain ⟨k, b, hrun⟩ := hs.run_init1 ht u count mode clksel comact
  rw [hs.onTimer1_nil] at hrun
  refine ⟨k + 2, _, s.t1.initialised u count mode clksel comact, hs.run_calling hwf rfl hrun, rfl, ?_⟩
  have hwgm := Timer1.initMode_wgm ((s.t1.counterLoaded count).initClock clksel) mode
  obtain ⟨hcomA, hcomB⟩ :=
    Timer1.initAction_com (((s.t1.counterLoaded count).initClock clksel).initMode mode) u comact
  obtain ⟨hloaded, hkept⟩ := Timer1.initMode_compare ((s.t1.counterLoaded count).initClock clksel) (mode := mode)
    (field_append_eq_of_toNat hmid)
  unfold Timer1.initialised
  rw [Timer1.initAction_eq]
  rw [Timer1.initMode_eq] at hcomA hcomB ⊢
  refine ⟨rfl, rfl, toNat_hiByte count, ?cs, hwgm, hcomA, hcomB, hloaded, hkept, rfl, rfl, rfl, rfl, rfl, rfl, rfl, rfl⟩
  case cs =>
    show (if clksel.toNat ≤ 7 then field clksel 0 3 else s.t1.cs).toNat = _
    rw [apply_ite BitVec.toNat, toNat_field]
    split
    · omega
    · rfl

end Sys2Proof.Machine
end

section
/-! PROOFS. The poll loop of DELAY_MS (spec 43_driver_delay.md R321, R322): O58. Each overflow is one failed poll, 256
CLKs that come during the operation, and a poll that ends the wait. -/

namespace Sys2Proof.Machine

/-- In the poll loop on Timer n, with the actions ps in progress, the inputs is to come, and j CLKs since the count was
0 and the overflow flag clear. -/
structure Polling (n : Timer8Id) (p j : Nat) (ps : List Micro) (is : List Input) (s : State) : Prop where
  noFault : s.faults = []
  noRefusal : s.refusals = []
  gie : s.gie = false
  pending : s.pending = ps
  input : s.input = is
  count : NormalCount n 1 p 0 false j s

/-- The count is about the timers, the prescalers and the flags. -/
theorem NormalCount.cpu {n : Timer8Id} {N p c j : Nat} {f : Bool} {s : State} (h : NormalCount n N p c f j s)
    (ps : List Micro) (is : List Input) (b : Byte) (shadow : Bool) :
    NormalCount n N p c f j { s with pending := ps, input := is, rdata := b, shadow := shadow } := by
  cases n <;> exact ⟨h.only, h.wgm, h.divisor, h.prescaler, h.tcnt, h.ovf⟩

/-! ### A CLK during the operation -/

theorem Polling.step_clk {n : Timer8Id} {p j : Nat} {ps : List Micro} {is : List Input} {s : State}
    (h : Polling n p j ps (.during 0x200000000000#48 :: is) s) :
    ∃ t, step s = .next t ∧ Polling n p (j + 1) ps is t := by
  have hcount : NormalCount n 1 p 0 false j { s with input := is } := h.count.cpu s.pending is s.rdata s.shadow
  have hclk : exec .clk { s with input := is } = .next (clocked { s with input := is }) :=
    exec_clk_next.mpr ⟨clockRefusals_of_only hcount.only (by simp [hcount.wgm]), rfl⟩
  refine ⟨_, (step_during h.noFault h.noRefusal h.input).trans
    ((takeWord_runs (decode_encode (i := .clk) rfl) (runsNow_environment rfl s true)).trans hclk), ?_⟩
  exact ⟨h.noFault, h.noRefusal, h.gie, h.pending, rfl, hcount.clocked⟩

theorem Polling.run_clks {n : Timer8Id} {p j : Nat} {ps : List Micro} {is : List Input} {s : State} (k : Nat)
    (h : Polling n p j ps (List.replicate k (.during 0x200000000000#48) ++ is) s) :
    ∃ t, runSteps k s = .next t ∧ Polling n p (j + k) ps is t := by
  induction k generalizing j s with
  | zero => exact ⟨s, rfl, h⟩
  | succ k ih =>
    obtain ⟨t, hstep, ht⟩ := Polling.step_clk h
    obtain ⟨u, hrun, hu⟩ := ih ht
    refine ⟨u, runSteps_step hstep hrun, ?_⟩
    rw [Nat.add_succ, ← Nat.succ_add]
    exact hu

/-! ### The CPU's turns -/

theorem Polling.step_cpu {n : Timer8Id} {p j : Nat} {m : Micro} {ps : List Micro} {is : List Input} {s : State}
    (h : Polling n p j (m :: ps) (.cpu :: is) s) : step s = microStep m { s with pending := ps, input := is } :=
  step_cpu_pending h.noFault h.noRefusal (acceptEnabled_of_gie h.gie) h.input h.pending

/-- A poll: what follows depends on the overflow flag. -/
theorem Polling.step_poll {n : Timer8Id} {p j left : Nat} {ps : List Micro} {is : List Input} {s : State}
    (h : Polling n p j (.poll n left :: ps) (.cpu :: is) s) :
    ∃ t, step s = .next t ∧ Polling n p j ((if s.flag (delaySource n) then
      .wr .tifr (onehot (sourceBit (delaySource n))) :: pollMicros n (left - 1) else [.poll n left]) ++ ps) is t := by
  have hpoll : microStep (.poll n left) { s with pending := ps, input := is } = .next { s with
      pending := afterPoll n left s.tifr ++ ps, input := is, rdata := s.tifr, shadow := false } := rfl
  exact ⟨_, h.step_cpu.trans hpoll, h.noFault, h.noRefusal, h.gie, rfl, rfl, h.count.cpu _ is s.tifr false⟩

theorem ticksIn_one (p j : Nat) : ticksIn p 1 j = j := by
  rw [ticksIn, Nat.div_one, Nat.div_one, Nat.add_sub_cancel_left]

/-- After 256 CLKs the count is 0 again, and a clear of the flag begins it anew. -/
theorem NormalCount.restart {n : Timer8Id} {p : Nat} {s t : State} (h : NormalCount n 1 p 0 false 256 s)
    (honly : t.onlyTimer8Runs n) (htimer : t.timer8 n = s.timer8 n) (hp : t.prescaler8 n = s.prescaler8 n)
    (hflag : t.flag (delaySource n) = false) : NormalCount n 1 ((p + 256) % 1024) 0 false 0 t := by
  have htcnt : (t.timer8 n).tcnt.toNat = 0 := by rw [htimer, h.tcnt, ticksIn_one]
  have hzero := NormalCount.zero (htimer ▸ h.wgm) honly (htimer ▸ h.divisor)
  rw [hp, h.prescaler, htcnt, hflag] at hzero
  exact hzero

/-- A one-hot clear clears the flag of its source. -/
theorem flag_clearWritten_onehot (src : Source) (s : State) :
    { s with tifr := clearWritten (onehot (sourceBit src)) s.tifr }.flag src = false := by
  have hbit : (onehot (sourceBit src)).getLsbD (sourceBit src) = true := by
    cases src <;> rfl
  have hlt : sourceBit src < 8 := by
    cases src <;> decide
  show (clearWritten _ _).getLsbD (sourceBit src) = false
  rw [getLsbD_clearWritten _ _ hlt, hbit, Bool.not_true, Bool.and_false]

theorem Polling.step_clear {n : Timer8Id} {p : Nat} {ps : List Micro} {is : List Input} {s : State}
    (h : Polling n p 256 (.wr .tifr (onehot (sourceBit (delaySource n))) :: ps) (.cpu :: is) s) :
    ∃ t, step s = .next t ∧ Polling n ((p + 256) % 1024) 0 ps is t := by
  refine ⟨_, h.step_cpu.trans rfl, h.noFault, h.noRefusal, h.gie, rfl, rfl, ?_⟩
  have hcount := h.count.cpu ps is s.rdata false
  refine hcount.restart ?_ ?_ ?_ (flag_clearWritten_onehot (delaySource n)
    { s with pending := ps, input := is, shadow := false })
  · cases n <;> exact hcount.only
  · cases n <;> rfl
  · cases n <;> rfl

/-! ### The loop -/

/-- The schedule of one overflow. -/
def overflowInput : List Input := .cpu :: List.replicate 256 (.during 0x200000000000#48) ++ [.cpu, .cpu]

theorem NormalCount.mod_phase {n : Timer8Id} {p j : Nat} {s : State} (h : NormalCount n 1 p 0 false j s) :
    NormalCount n 1 (p % 1024) 0 false j s := by
  have hticks : ticksIn (p % 1024) 1 j = ticksIn p 1 j := by rw [ticksIn_one, ticksIn_one]
  refine ⟨h.only, h.wgm, h.divisor, ?_, hticks ▸ h.tcnt, hticks ▸ h.ovf⟩
  rw [Nat.mod_add_mod, h.prescaler]

/-- One overflow counted. -/
theorem Polling.run_overflow {n : Timer8Id} {p left : Nat} {ms : List Micro} {is : List Input} {s : State}
    (h : Polling n p 0 (pollMicros n (left + 1) ++ ms) (overflowInput ++ is) s) :
    ∃ t, runSteps 259 s = .next t ∧ Polling n ((p + 256) % 1024) 0 (pollMicros n left ++ ms) is t := by
  have hflag : s.flag (delaySource n) = false := by
    rw [h.count.ovf, ticksIn_one]
    rfl
  have hinput : overflowInput ++ is =
      .cpu :: (List.replicate 256 (.during 0x200000000000#48) ++ .cpu :: .cpu :: is) := by
    rw [overflowInput, List.cons_append, List.cons_append, List.append_assoc]
    rfl
  rw [hinput] at h
  obtain ⟨s₁, hfail, h₁⟩ := Polling.step_poll h
  rw [hflag] at h₁
  obtain ⟨s₂, hclks, h₂⟩ := h₁.run_clks 256
  have hset : s₂.flag (delaySource n) = true := by
    rw [h₂.count.ovf, ticksIn_one]
    rfl
  obtain ⟨s₃, hpoll, h₃⟩ := Polling.step_poll h₂
  rw [hset, Nat.zero_add] at h₃
  obtain ⟨s₄, hclear, h₄⟩ := Polling.step_clear h₃
  have hend := runSteps_step (k := 1) hpoll (runSteps_step hclear rfl)
  exact ⟨s₄, runSteps_step (k := 258) hfail (runSteps_trans (j := 256) hclks hend), h₄⟩

theorem Polling.run_loop {n : Timer8Id} {p : Nat} {ms : List Micro} {s : State} (N : Nat)
    (h : Polling n p 0 (pollMicros n N ++ ms) (List.replicate N overflowInput).flatten s) :
    ∃ t, runSteps (259 * N) s = .next t ∧ Polling n ((p + 256 * N) % 1024) 0 ms [] t := by
  induction N generalizing p s with
  | zero => exact ⟨s, rfl, h.noFault, h.noRefusal, h.gie, h.pending, h.input, h.count.mod_phase⟩
  | succ N ih =>
    rw [List.replicate_succ, List.flatten_cons] at h
    obtain ⟨t, hone, ht⟩ := h.run_overflow
    obtain ⟨u, hrest, hu⟩ := ih ht
    refine ⟨u, ?_, ?_⟩
    · rw [Nat.mul_succ, Nat.add_comm]
      exact runSteps_trans hone hrest
    · rw [Nat.mod_add_mod, Nat.add_assoc, Nat.add_comm 256, ← Nat.mul_succ] at hu
      exact hu

/-- Settles O58: the loop's invariant `Polling` from the given state. -/
theorem delayLoopCountsOverflows : Obligations.DelayLoopCountsOverflows := by
  intro n N s ms hf hr hgie honly hwgm hcs htcnt hflag hp hi
  have hdiv : divisor8 n (s.timer8 n).cs.toNat = some 1 := by
    rw [hcs]
    cases n <;> rfl
  have hcount := NormalCount.zero hwgm honly hdiv
  rw [htcnt, hflag] at hcount
  obtain ⟨t, hrun, ht⟩ := Polling.run_loop N ⟨hf, hr, hgie, hp, hi, hcount⟩
  have htcnt : (t.timer8 n).tcnt = 0#8 := BitVec.eq_of_toNat_eq (by
    rw [ht.count.tcnt, ticksIn_one]
    rfl)
  have hflag : t.flag (delaySource n) = false := by
    rw [ht.count.ovf, ticksIn_one]
    rfl
  have hprescaler := ht.count.prescaler
  rw [Nat.add_zero, Nat.mod_mod] at hprescaler
  exact ⟨t, hrun, ht.pending, ht.input, htcnt, hflag, hprescaler⟩

end Sys2Proof.Machine
end
